-- ==== Sys2Proof/Word.lean ====
section
/-! DEFINITION. The word types of TB-BCE (00_scope.md R8, R11). -/

namespace Sys2Proof

/-- A 32-bit unsigned word: every register and every CipherState word (R8). Addition wraps (R12). -/
abbrev Word := BitVec 32

/-- A byte of a byte buffer (R33). -/
abbrev Byte := BitVec 8

end Sys2Proof
end

