-- ==== Sys2Proof/Syntax.lean ====
section
/-! DEFINITION. The sixteen commands of TB-BCE (30_encoding.md R114). A command has no operands (R112). -/

namespace Sys2Proof

/-- The command set: one constructor per row of spec/opcode_table.json. -/
inductive Instr where
  | init
  | encrypt
  | scrub
  | abort
  | expandSalted
  | expandKey
  | expandSalt
  | eksStart
  | eksContinue
  | chain64
  | hash
  | verify
  | b64EncSalt
  | b64DecSalt
  | b64EncDigest
  | b64DecDigest
deriving DecidableEq, Repr

end Sys2Proof
end

