-- ==== Sys2Proof/WellFormed.lean ====
section
/-! DEFINITION. Which commands and command words are well formed (30_encoding.md R111, R114, R115). -/

namespace Sys2Proof

/-- A command carries no operand (R112), so each of the sixteen is well formed as it stands. -/
def Instr.wf : Instr → Bool
  | .init | .encrypt | .scrub | .abort | .expandSalted | .expandKey | .expandSalt | .eksStart | .eksContinue
  | .chain64 | .hash | .verify | .b64EncSalt | .b64DecSalt | .b64EncDigest | .b64DecDigest => true

/-- The set OPCODES of R114. -/
def opcodes : List Byte :=
  [0x01, 0x02, 0x03, 0x0E, 0x10, 0x11, 0x12, 0x13, 0x14, 0x20, 0x21, 0x22, 0x30, 0x31, 0x32, 0x33]

/-- A command word is legal when RSV is 0 and OPC is in OPCODES (R111, R113). -/
def commandWordWf (w : Word) : Bool :=
  w.extractLsb' 8 24 == 0 && opcodes.contains (w.extractLsb' 0 8)

end Sys2Proof
end

