-- ==== Sys2Proof/Decode.lean ====
section
/-! DEFINITION. The decoder of command words and bytes, and the encoder (30_encoding.md R110 to R117). -/

namespace Sys2Proof

/-- Why a command word is not a command. -/
inductive DecodeError where
  /-- RSV, bits [31:8], is not 0 (R111). -/
  | reservedBits
  /-- OPC is outside OPCODES (R115). -/
  | unassignedOpcode
  /-- Fewer than the four bytes of a command word. -/
  | truncated
deriving DecidableEq, Repr

/-- The opcode map of R114, one row per command. -/
def opcodeTable : List (Byte × Instr) :=
  [(0x01, .init), (0x02, .encrypt), (0x03, .scrub), (0x0E, .abort),
   (0x10, .expandSalted), (0x11, .expandKey), (0x12, .expandSalt), (0x13, .eksStart), (0x14, .eksContinue),
   (0x20, .chain64), (0x21, .hash), (0x22, .verify),
   (0x30, .b64EncSalt), (0x31, .b64DecSalt), (0x32, .b64EncDigest), (0x33, .b64DecDigest)]

/-- The command whose opcode is `opc`, if `opc` is in OPCODES (R114). -/
def decodeOpcode (opc : Byte) : Option Instr :=
  (opcodeTable.find? (fun row => row.1 == opc)).map (fun row => row.2)

/-- Decoding of a 32-bit command word (R111, R113): the whole word selects the command. -/
def decodeWord (w : Word) : Except DecodeError Instr :=
  if w.extractLsb' 8 24 ≠ 0 then .error .reservedBits
  else
    match decodeOpcode (w.extractLsb' 0 8) with
    | some i => .ok i
    | none => .error .unassignedOpcode

/-- Decoding of a byte string: a command word is its first four bytes, byte 0 the most significant (R11, R110; log 5).
Answers the command and the bytes after it. -/
def decodeBytes : List Byte → Except DecodeError (Instr × List Byte)
  | b0 :: b1 :: b2 :: b3 :: rest =>
    match decodeWord (b0 ++ b1 ++ b2 ++ b3) with
    | .ok i => .ok (i, rest)
    | .error e => .error e
  | _ => .error .truncated

/-- The bytes of a command word in the order of R11, byte 0 the most significant. -/
def wordBytes (w : Word) : List Byte :=
  [w.extractLsb' 24 8, w.extractLsb' 16 8, w.extractLsb' 8 8, w.extractLsb' 0 8]

/-- The command the decoder reads from an instruction whose bits, numbered as the opcode table numbers them, are `w`.
Every row of the table is one word of 32 bits; the bits above `nbits` are 0. -/
def decodeTableWord (nbits w : Nat) : Option Instr :=
  if 32 < nbits then none
  else
    match decodeBytes (wordBytes (BitVec.ofNat 32 (w % 2 ^ nbits))) with
    | .ok (i, _) => some i
    | .error _ => none

/-- The command word of a command, from the Encoding line of its rule (R143 to R145, R175 to R177, R180, R181, R212 to
R214, R216, R245 to R248). -/
def encode : Instr → Word
  | .init => 0x00000001
  | .encrypt => 0x00000002
  | .scrub => 0x00000003
  | .abort => 0x0000000E
  | .expandSalted => 0x00000010
  | .expandKey => 0x00000011
  | .expandSalt => 0x00000012
  | .eksStart => 0x00000013
  | .eksContinue => 0x00000014
  | .chain64 => 0x00000020
  | .hash => 0x00000021
  | .verify => 0x00000022
  | .b64EncSalt => 0x00000030
  | .b64DecSalt => 0x00000031
  | .b64EncDigest => 0x00000032
  | .b64DecDigest => 0x00000033

end Sys2Proof
end

