-- ==== Sys2Proof/Machine/Bus.lean ====
section
/-! DEFINITION. What the host can do: accesses of the register window, statements of a host program, and whose turn it
is (00_scope.md R14, R19; 20_memory.md R84, R90; 30_encoding.md R118, R119). -/

namespace Sys2Proof.Machine

/-- A host access of the window: a byte offset, a width in bytes, and the value written (R14, R86). Accesses outside the
device contract can be written down too; the step refuses them (R84). -/
inductive Access where
  | read (off width : Nat)
  | write (off width : Nat) (v : Word)
deriving DecidableEq, Repr

/-- A statement of a host program (R118, R119). WR and RD are accesses of width 4; the pseudo-statements CMD, RUN, WRB and
WRS expand to these. -/
inductive Stmt where
  | access (a : Access)
  /-- RD and the assertion that the value read equals `v`. -/
  | chk (off : Nat) (v : Word)
  /-- RD and the assertion that the value read, masked, equals `v`. -/
  | chkm (off : Nat) (mask v : Word)
  /-- Repeat RD STATUS until bit 0 of the value read is 0. -/
  | wait
deriving DecidableEq, Repr

/-- Who makes the next transition in the total order of R90. -/
inductive Turn where
  | host
  | engine
  /-- The reset input is asserted (R340). -/
  | rst
deriving DecidableEq, Repr

/-- The registers of the window by name (10_state.md R61, 30_encoding.md R120). -/
inductive Reg where
  | id
  | version
  | cmd
  | status
  | irqEn
  | errcode
  | cost
  | pwlen
  | slice
  | iter
  | iterTotal
  | blkL
  | blkR
  | pww (i : Fin 18)
  | saltw (i : Fin 4)
  | dig (i : Fin 6)
  | textw (i : Fin 8)
  | refw (i : Fin 8)
  | p (i : Fin 18)
  | s (b : Fin 4) (i : Fin 256)
deriving DecidableEq, Repr

end Sys2Proof.Machine
end

