-- ==== Sys2Proof/Machine/State.lean ====
section
/-! DEFINITION. The state of one TB-BCE instance and of the host that drives it, the reasons a step can stop, and the
state after reset (10_state.md R20 to R61). -/

namespace Sys2Proof.Machine

/-- STATUS.SCHED (R34). Value 3 is never held, so there is no name for it. -/
inductive Sched where
  | none
  | active
  | complete
deriving DecidableEq, Repr

/-- The codes ERRCODE can hold (60_exceptions.md R301). Codes 7 to 255 are never written. -/
inductive ErrCode where
  | none
  | illegalCmd
  | costDomain
  | saltGrammar
  | digestGrammar
  | sequence
  | aborted
deriving DecidableEq, Repr

/-- PHASE, the hidden position inside a multi-step command (R51). -/
inductive Phase where
  | start
  | loop
  | finish
deriving DecidableEq, Repr

/-- The fields of STATUS (R26). -/
structure Status where
  busy : Bool
  done : Bool
  err : Bool
  prog : Bool
  /-- MATCH -/
  matched : Bool
  ovr : Bool
  sched : Sched
deriving DecidableEq, Repr

/-- The four bits IRQ_EN stores (R35). -/
structure IrqEnable where
  done : Bool
  err : Bool
  prog : Bool
  ovr : Bool
deriving DecidableEq, Repr

/-- CipherState: the P-box and the four S-boxes (R47, R48). -/
structure CipherState where
  P : Vector Word 18
  S : Vector (Vector Word 256) 4
deriving DecidableEq, Repr

/-- The whole state: the device (R20) and the host (00_scope.md R19). ID, VERSION, CMD and the constant ROM hold nothing
that changes and are no fields. -/
structure State where
  /-- P and S -/
  cipher : CipherState
  blkL : Word
  blkR : Word
  pww : Vector Word 18
  pwlen : Word
  saltw : Vector Word 4
  cost : Word
  slice : Word
  dig : Vector Word 6
  textw : Vector Word 8
  refw : Vector Word 8
  status : Status
  irqEn : IrqEnable
  errcode : ErrCode
  iter : Word
  iterTotal : Word
  /-- CUR, the opcode of the running command; no meaning while idle (R51, log 3) -/
  cur : Byte
  /-- PHASE; no meaning while idle (R51, log 3) -/
  phase : Phase
  sliceCnt : Word
  abortReq : Bool
  /-- The statements the host has yet to perform (log 1). -/
  program : List Stmt
  /-- Whose turn comes next, in order (R90, log 1). -/
  schedule : List Turn
  /-- The values RD, CHK and CHKM read, oldest first (log 8). -/
  results : List Word
  /-- An assertion of a CHK or CHKM did not hold (log 8). -/
  assertFailed : Bool
deriving DecidableEq, Repr

/-- Faults of the model. TB-BCE itself has none (60_exceptions.md R300): both stand for sequencer states that no transition
reaches (log 4). -/
inductive Fault where
  /-- An engine step while BUSY with a CUR outside OPCODES. Raised by the engine's turn. Safe: acceptance stores only opcodes
  (R113). -/
  | undecodableCur
  /-- EKS_CONTINUE at PHASE FINISH. Raised by EKS_CONTINUE. Safe: its pseudocode has no FINISH (R181). -/
  | phaseUnreachable
deriving DecidableEq, Repr

/-- Refusals of the model. -/
inductive Refusal where
  /-- An instruction with no meaning yet; raised by exec's arms alone. Safe. -/
  | notModelled (mnemonic : String)
  /-- A host access narrower or wider than 32 bits (20_memory.md R84). Raised by the host's turn. Safe. -/
  | wrongWidth
  /-- A host access at an offset that is no multiple of 4 (R84). Raised by the host's turn. Safe. -/
  | misaligned
  /-- A host access outside 0x0000 to 0x1FFF (R84). Raised by the host's turn. Safe. -/
  | outsideWindow
deriving DecidableEq, Repr

/-- The outcome of an instruction or a step. -/
abbrev Result := Host.Outcome State Fault Refusal

/-- The CipherState with every word 0 (R47, R48, R57). -/
def CipherState.zero : CipherState :=
  { P := Vector.replicate 18 0, S := Vector.replicate 4 (Vector.replicate 256 0) }

/-- The state right after reset (R57, 70_reset_and_hazards.md R340): every register, buffer and hidden flag 0, STATUS 0,
the engine idle. CUR and PHASE hold no meaning (log 3); the host has no program and no turn is fixed (log 2, log 6). -/
def State.reset : State where
  cipher := CipherState.zero
  blkL := 0
  blkR := 0
  pww := Vector.replicate 18 0
  pwlen := 0
  saltw := Vector.replicate 4 0
  cost := 0
  slice := 0
  dig := Vector.replicate 6 0
  textw := Vector.replicate 8 0
  refw := Vector.replicate 8 0
  status :=
    { busy := false, done := false, err := false, prog := false, matched := false, ovr := false, sched := .none }
  irqEn := { done := false, err := false, prog := false, ovr := false }
  errcode := .none
  iter := 0
  iterTotal := 0
  cur := 0
  phase := .start
  sliceCnt := 0
  abortReq := false
  program := []
  schedule := []
  results := []
  assertFailed := false

end Sys2Proof.Machine
end

