-- ==== Sys2Proof/Machine/Flags.lean ====
section
/-! DEFINITION. STATUS, IRQ_EN and ERRCODE as words, the clearing of flags, and the interrupt line (10_state.md R26 to R36,
60_exceptions.md R304, R306). -/

namespace Sys2Proof.Machine

/-- The value of STATUS.SCHED (R34). -/
def Sched.bits : Sched → BitVec 2
  | .none => 0
  | .active => 1
  | .complete => 2

/-- The code ERRCODE holds (R301). -/
def ErrCode.code : ErrCode → Byte
  | .none => 0
  | .illegalCmd => 1
  | .costDomain => 2
  | .saltGrammar => 3
  | .digestGrammar => 4
  | .sequence => 5
  | .aborted => 6

/-- STATUS as the host reads it (R26): bits [31:8] are 0. -/
def Status.toWord (st : Status) : Word :=
  (0 : BitVec 24) ++ st.sched.bits ++ BitVec.ofBool st.ovr ++ BitVec.ofBool st.matched ++ BitVec.ofBool st.prog ++
    BitVec.ofBool st.err ++ BitVec.ofBool st.done ++ BitVec.ofBool st.busy

/-- A host write of `w` to STATUS (R26): each W1C bit i with `w[i] = 1` is cleared, nothing else changes. -/
def Status.clearW1C (st : Status) (w : Word) : Status :=
  { st with
    done := st.done && !w.getLsbD 1
    err := st.err && !w.getLsbD 2
    prog := st.prog && !w.getLsbD 3
    ovr := st.ovr && !w.getLsbD 5 }

/-- The flags every issue while idle clears (30_encoding.md R113); OVR and SCHED stay. -/
def Status.clearOutcome (st : Status) : Status :=
  { st with done := false, err := false, prog := false, matched := false }

/-- IRQ_EN as the host reads it (R35). -/
def IrqEnable.toWord (e : IrqEnable) : Word :=
  (0 : BitVec 26) ++ BitVec.ofBool e.ovr ++ (0 : BitVec 1) ++ BitVec.ofBool e.prog ++ BitVec.ofBool e.err ++
    BitVec.ofBool e.done ++ (0 : BitVec 1)

/-- What a host write of `w` leaves in IRQ_EN: bits 1, 2, 3 and 5 (R35). -/
def IrqEnable.ofWord (w : Word) : IrqEnable where
  done := w.getLsbD 1
  err := w.getLsbD 2
  prog := w.getLsbD 3
  ovr := w.getLsbD 5

/-- The interrupt line (R306): a function of state. -/
def State.irq (s : State) : Bool :=
  (s.status.done && s.irqEn.done) || (s.status.err && s.irqEn.err) || (s.status.prog && s.irqEn.prog) ||
    (s.status.ovr && s.irqEn.ovr)

end Sys2Proof.Machine
end

