-- ==== Sys2Proof/Machine/Ops.lean ====
section
/-! DEFINITION. The shared operations: completion of a command, taking a failure, CipherState updates, byte packing
(00_scope.md R11, R12, R15; 10_state.md R33). -/

namespace Sys2Proof.Machine

/-- `complete_ok` (R15): DONE is set and BUSY cleared in one step, and the abort request is cleared. CUR and PHASE lose
their meaning (R51, log 3). -/
def completeOk (s : State) : State :=
  { s with
    status := { s.status with done := true, busy := false }
    abortReq := false
    cur := 0
    phase := .start }

/-- `raise Error(code)` (R15, 60_exceptions.md R309), the one way a command fails: ERRCODE takes the code, ERR is set and
BUSY cleared in one step, and the abort request is cleared. No state is saved and no vector is taken. The return from it
is the host's clearing of ERR (R310): `Status.clearW1C` or the next acceptance. -/
def raiseError (code : ErrCode) (s : State) : State :=
  { s with
    status := { s.status with err := true, busy := false }
    errcode := code
    abortReq := false
    cur := 0
    phase := .start }

/-- `x[STATUS].SCHED <- v` (R34). -/
def setSched (v : Sched) (s : State) : State := { s with status := { s.status with sched := v } }

/-- P and S take the given words. -/
def setCipher (cs : CipherState) (s : State) : State := { s with cipher := cs }

/-- `P[i] <- v`. -/
def CipherState.setP (cs : CipherState) (i : Fin 18) (v : Word) : CipherState := { cs with P := cs.P.set i v }

/-- `S[b][i] <- v`. -/
def CipherState.setS (cs : CipherState) (b : Fin 4) (i : Fin 256) (v : Word) : CipherState :=
  { cs with S := cs.S.set b (cs.S[b].set i v) }

/-- `BE32(b0, b1, b2, b3)` (R12). -/
def be32 (b0 b1 b2 b3 : Byte) : Word := b0 ++ b1 ++ b2 ++ b3

/-- The byte view of a buffer of words (R33): byte 4i is the most significant byte of word i. -/
def bytesOfWords (ws : List Word) : List Byte := ws.flatMap wordBytes

/-- The words that hold the bytes `bs` (R33). `bs` has 4n bytes wherever this is used. -/
def wordsOfBytes (n : Nat) (bs : List Byte) : Vector Word n :=
  Vector.ofFn fun i => be32 (bs.getD (4 * i) 0) (bs.getD (4 * i + 1) 0) (bs.getD (4 * i + 2) 0) (bs.getD (4 * i + 3) 0)

end Sys2Proof.Machine
end

