-- ==== Sys2Proof/Machine/Operands.lean ====
section
/-! DEFINITION. The implicit operands of commands (30_encoding.md R112): the byte views of the buffers, the key, and the
cyclic word stream (10_state.md R33; 42_key_schedule.md R171, R172, R179). -/

namespace Sys2Proof.Machine

/-- PWB[0..71] (R42). -/
def State.pwb (s : State) : List Byte := bytesOfWords s.pww.toList

/-- SALTB[0..15] (R43). -/
def State.saltb (s : State) : List Byte := bytesOfWords s.saltw.toList

/-- DIGB[0..23] (R44). -/
def State.digb (s : State) : List Byte := bytesOfWords s.dig.toList

/-- TEXTB[0..31] (R45). -/
def State.textb (s : State) : List Byte := bytesOfWords s.textw.toList

/-- REFB[0..31] (R46). -/
def State.refb (s : State) : List Byte := bytesOfWords s.refw.toList

/-- KeyBytes (R172): the first PWLEN password bytes and the terminator 0x00, cut to 72 bytes. -/
def State.keyBytes (s : State) : List Byte := (s.pwb.take s.pwlen.toNat ++ [0x00]).take 72

/-- One byte of StreamWord (R171): shift it in and move on cyclically. -/
def streamByte (d : List Byte) (st : Word × Nat) : Word × Nat :=
  ((st.1 <<< 8) ||| (d.getD st.2 0).setWidth 32, (st.2 + 1) % d.length)

/-- StreamWord (R171): the next four bytes of `d`, cyclically from position `j`, and the position after them. -/
def streamWord (d : List Byte) (j : Nat) : Word × Nat :=
  streamByte d (streamByte d (streamByte d (streamByte d (0, j))))

/-- CostOK (R179), on the whole 32-bit value. -/
def costOk (c : Word) : Bool := decide (4 ≤ c.toNat ∧ c.toNat ≤ 31)

end Sys2Proof.Machine
end

