-- ==== Sys2Proof/Machine/Base64Unit.lean ====
section
/-! DEFINITION. The base64 unit: Alpha, Index, B64Enc, B64Dec, FieldOK and the four commands (44_base64.md R240 to R249). -/

namespace Sys2Proof.Machine

/-- Alpha (R240): the ASCII code of index `v`, for v < 64. -/
def alpha (v : Nat) : Byte :=
  if v = 0 then 0x2E
  else if v = 1 then 0x2F
  else if v ≤ 27 then BitVec.ofNat 8 (0x3F + v)
  else if v ≤ 53 then BitVec.ofNat 8 (0x45 + v)
  else BitVec.ofNat 8 (v - 0x06)

/-- Index (R240): the index whose code is `c`; none for a byte outside the alphabet. -/
def indexOf (c : Byte) : Option Nat :=
  if c = 0x2E then some 0
  else if c = 0x2F then some 1
  else if 0x41 ≤ c ∧ c ≤ 0x5A then some (c.toNat - 0x3F)
  else if 0x61 ≤ c ∧ c ≤ 0x7A then some (c.toNat - 0x45)
  else if 0x30 ≤ c ∧ c ≤ 0x39 then some (c.toNat + 0x06)
  else none

/-- The number whose digits in `base` are `ds`, most significant first. -/
def ofDigits (base : Nat) (ds : List Nat) : Nat := ds.foldl (fun a d => a * base + d) 0

/-- The lowest `count` digits of `v` in `base`, most significant first. -/
def toDigits (base count v : Nat) : List Nat :=
  (List.range count).map fun k => v / base ^ (count - 1 - k) % base

/-- B64Enc (R241): the bits of `b`, most significant first, padded with zeros to groups of 6. -/
def b64Enc (b : List Byte) : List Byte :=
  let n := b.length
  let m := (8 * n + 5) / 6
  let bits := ofDigits 256 (b.map BitVec.toNat) * 2 ^ (6 * m - 8 * n)
  (toDigits 64 m bits).map alpha

/-- The indices of the characters, or none when one is outside the alphabet (R242, R243). -/
def indicesOf : List Byte → Option (List Nat)
  | [] => some []
  | c :: cs =>
    match indexOf c, indicesOf cs with
    | some v, some vs => some (v :: vs)
    | _, _ => none

/-- The first 8n bits of the characters' 6-bit indices, as n bytes (R242). -/
def decodeIndices (n : Nat) (vs : List Nat) : List Byte :=
  (toDigits 256 n (ofDigits 64 vs / 2 ^ (6 * vs.length - 8 * n))).map (BitVec.ofNat 8)

/-- B64Dec (R242): none when a character is outside the alphabet. -/
def b64Dec (t : List Byte) (n : Nat) : Option (List Byte) := (indicesOf t).map (decodeIndices n)

/-- The field check with its result (R243): the indices of the field `t` when all its characters are in the alphabet and
the low `pad` bits of the last are 0. -/
def fieldIndices (t : List Byte) (pad : Nat) : Option (List Nat) :=
  match indicesOf t with
  | some vs => if vs.getLastD 0 % 2 ^ pad = 0 then some vs else none
  | none => none

/-- FieldOK (R243) on the field `t`. -/
def fieldOk (t : List Byte) (pad : Nat) : Bool := (fieldIndices t pad).isSome

/-- The digest field of DIGB[0..22] in TEXTB, TEXTB[31] = 0x00 (R247, R213). -/
def digestText (dig : Vector Word 6) : Vector Word 8 :=
  wordsOfBytes 8 (b64Enc ((bytesOfWords dig.toList).take 23) ++ [0x00])

/-- B64_ENC_SALT (R245). -/
def execB64EncSalt (s : State) : Result :=
  .next (completeOk { s with textw := wordsOfBytes 8 (b64Enc s.saltb ++ List.replicate 10 0x00) })

/-- B64_DEC_SALT (R246). -/
def execB64DecSalt (s : State) : Result :=
  match fieldIndices (s.textb.take 22) 4 with
  | some vs => .next (completeOk (setSched .none { s with saltw := wordsOfBytes 4 (decodeIndices 16 vs) }))
  | none => .next (raiseError .saltGrammar s)

/-- B64_ENC_DIGEST (R247). -/
def execB64EncDigest (s : State) : Result :=
  .next (completeOk { s with textw := digestText s.dig })

/-- B64_DEC_DIGEST (R248). -/
def execB64DecDigest (s : State) : Result :=
  match fieldIndices (s.textb.take 31) 2 with
  | some vs => .next (completeOk { s with dig := wordsOfBytes 6 (decodeIndices 23 vs ++ [0x00]) })
  | none => .next (raiseError .digestGrammar s)

end Sys2Proof.Machine
end

