-- ==== Sys2Proof/Machine/CipherUnit.lean ====
section
/-! DEFINITION. The cipher unit: F, Encrypt, INIT, ENCRYPT and SCRUB (41_cipher.md R140 to R148). -/

namespace Sys2Proof.Machine

/-- `S[b][x]` for a byte index. -/
def CipherState.sbox (cs : CipherState) (b : Fin 4) (x : Byte) : Word := cs.S[b][x.toNat]'x.isLt

/-- The mixing function F (R141). -/
def mixF (cs : CipherState) (x : Word) : Word :=
  ((cs.sbox 0 (x.extractLsb' 24 8) + cs.sbox 1 (x.extractLsb' 16 8)) ^^^ cs.sbox 2 (x.extractLsb' 8 8)) +
    cs.sbox 3 (x.extractLsb' 0 8)

/-- One round of Encrypt on the pair (L, R), the swap at its end included (R142). -/
def feistelRound (cs : CipherState) (lr : Word × Word) (i : Fin 16) : Word × Word :=
  let l := lr.1 ^^^ cs.P[i.val]
  (lr.2 ^^^ mixF cs l, l)

/-- The block function Encrypt (R142): 16 rounds, the undoing swap, P[16] on R and P[17] on L. -/
@[irreducible] def encryptBlock (cs : CipherState) (l r : Word) : Word × Word :=
  let lr := (List.finRange 16).foldl (feistelRound cs) (l, r)
  (lr.2 ^^^ cs.P[17], lr.1 ^^^ cs.P[16])

/-- INIT (R143). -/
def execInit (s : State) : Result :=
  .next (completeOk (setSched .none (setCipher romCipher s)))

/-- ENCRYPT (R144). -/
def execEncrypt (s : State) : Result :=
  let lr := encryptBlock s.cipher s.blkL s.blkR
  .next (completeOk { s with blkL := lr.1, blkR := lr.2 })

/-- Every data register and key-dependent word at 0 (R145). COST, SLICE, IRQ_EN and OVR stay. -/
def scrubData (s : State) : State :=
  { s with
    cipher := CipherState.zero
    blkL := 0
    blkR := 0
    pww := Vector.replicate 18 0
    pwlen := 0
    saltw := Vector.replicate 4 0
    dig := Vector.replicate 6 0
    textw := Vector.replicate 8 0
    refw := Vector.replicate 8 0
    iter := 0
    iterTotal := 0
    sliceCnt := 0 }

/-- SCRUB (R145). -/
def execScrub (s : State) : Result :=
  .next (completeOk (setSched .none (scrubData s)))

end Sys2Proof.Machine
end

