-- ==== Sys2Proof/Machine/KeySchedule.lean ====
section
/-! DEFINITION. The key-schedule unit: XorKey, Sweep, Iterate, the slice boundary, EXPAND_SALTED, EXPAND_KEY, EXPAND_SALT,
EKS_START and EKS_CONTINUE (42_key_schedule.md R170 to R186). -/

namespace Sys2Proof.Machine

/-- One word of XorKey: `P[i] <- P[i] ⊕ w`, and the stream position moves on (R173). -/
def xorKeyWord (d : List Byte) (st : CipherState × Nat) (i : Fin 18) : CipherState × Nat :=
  let wj := streamWord d st.2
  (st.1.setP i (st.1.P[i] ^^^ wj.1), wj.2)

/-- XorKey (R173): the byte string `d` mixed cyclically into the P-box. -/
@[irreducible] def xorKey (d : List Byte) (cs : CipherState) : CipherState :=
  ((List.finRange 18).foldl (xorKeyWord d) (cs, 0)).1

/-- What a Sweep carries along (R174): P and S, the running pair and the position in the salt stream. -/
structure SweepState where
  cs : CipherState
  l : Word
  r : Word
  j : Nat
deriving DecidableEq, Repr

/-- The mixing of two stream words into the running pair, in a salted Sweep only (R174). -/
def mixSalt (salt : Option (List Byte)) (st : SweepState) : SweepState :=
  match salt with
  | none => st
  | some d =>
    let wl := streamWord d st.j
    let wr := streamWord d wl.2
    { st with l := st.l ^^^ wl.1, r := st.r ^^^ wr.1, j := wr.2 }

/-- `(L, R) <- Encrypt(P, S, L, R)` with P and S as the earlier writes of the Sweep left them (R170, R174). -/
def encryptPair (st : SweepState) : SweepState :=
  let lr := encryptBlock st.cs st.l st.r
  { st with l := lr.1, r := lr.2 }

/-- One step of the P part: P[2k] and P[2k+1] (R174). -/
def sweepP (salt : Option (List Byte)) (st : SweepState) (k : Fin 9) : SweepState :=
  let st := encryptPair (mixSalt salt st)
  { st with cs := (st.cs.setP ⟨2 * k, by omega⟩ st.l).setP ⟨2 * k + 1, by omega⟩ st.r }

/-- One step of the S part: S[b][2k] and S[b][2k+1] (R174). -/
def sweepS (salt : Option (List Byte)) (b : Fin 4) (st : SweepState) (k : Fin 128) : SweepState :=
  let st := encryptPair (mixSalt salt st)
  { st with cs := (st.cs.setS b ⟨2 * k, by omega⟩ st.l).setS b ⟨2 * k + 1, by omega⟩ st.r }

/-- One S-box of the S part (R174). -/
def sweepBox (salt : Option (List Byte)) (st : SweepState) (b : Fin 4) : SweepState :=
  (List.finRange 128).foldl (sweepS salt b) st

/-- Sweep (R174): salted by `d` for `some d`, unsalted for `none`. The running pair and the stream position start at 0 and
carry over from P to S and from box to box. -/
@[irreducible] def sweep (salt : Option (List Byte)) (cs : CipherState) : CipherState :=
  let st : SweepState := (List.finRange 9).foldl (sweepP salt) { cs := cs, l := 0, r := 0, j := 0 }
  ((List.finRange 4).foldl (sweepBox salt) st).cs

/-- XorKey with the key, then the salted Sweep (R175, R180). -/
def expandSalted (key salt : List Byte) (cs : CipherState) : CipherState := sweep (some salt) (xorKey key cs)

/-- XorKey with a byte string used as the key, then the zero-pair Sweep (R176, R177). -/
def expandPlain (key : List Byte) (cs : CipherState) : CipherState := sweep none (xorKey key cs)

/-- The CipherState part of Iterate (R178): an expand-key pass, then the salt used as a key. -/
def iterateCipher (key salt : List Byte) (cs : CipherState) : CipherState := expandPlain salt (expandPlain key cs)

/-- EksState (R183): the finished schedule of a key, a salt and a cost. -/
def eksState (key salt : List Byte) (cost : Nat) : CipherState :=
  (iterateCipher key salt)^[2 ^ cost] (expandSalted key salt romCipher)

/-- Iterate (R178). -/
def iterate (s : State) : State :=
  { s with
    cipher := iterateCipher s.keyBytes s.saltb s.cipher
    iter := s.iter + 1
    sliceCnt := s.sliceCnt + 1 }

/-- AtBoundary (R182). -/
def atBoundary (s : State) : Bool :=
  (s.slice != 0 && s.sliceCnt == s.slice) || s.iter == s.iterTotal

/-- The part of SliceBoundary every boundary does (R182): PROG, SLICE_CNT, and SCHED at the last one. -/
def markBoundary (s : State) : State :=
  { s with
    status :=
      { s.status with
        prog := true
        sched := if s.iter = s.iterTotal then .complete else s.status.sched }
    sliceCnt := 0 }

/-- The abort at a slice boundary (R182): P and S are zeroed, SCHED is NONE, and the command fails with ABORTED. -/
def abortAtBoundary (s : State) : State :=
  raiseError .aborted (setSched .none (setCipher CipherState.zero s))

/-- The start of a schedule, shared by EKS_START, HASH and VERIFY (R180, R213): the ROM, the key and the salted Sweep, ITER,
ITER_TOTAL, SLICE_CNT and SCHED. -/
def startSchedule (s : State) : State :=
  setSched .active
    { s with
      cipher := expandSalted s.keyBytes s.saltb romCipher
      iter := 0
      iterTotal := BitVec.ofNat 32 (2 ^ s.cost.toNat)
      sliceCnt := 0 }

/-- EXPAND_SALTED (R175). -/
def execExpandSalted (s : State) : Result :=
  .next (completeOk (setSched .none (setCipher (expandSalted s.keyBytes s.saltb s.cipher) s)))

/-- EXPAND_KEY (R176). -/
def execExpandKey (s : State) : Result :=
  .next (completeOk (setSched .none (setCipher (expandPlain s.keyBytes s.cipher) s)))

/-- EXPAND_SALT (R177). -/
def execExpandSalt (s : State) : Result :=
  .next (completeOk (setSched .none (setCipher (expandPlain s.saltb s.cipher) s)))

/-- EKS_START (R180). -/
def execEksStart (s : State) : Result :=
  if costOk s.cost then .next (completeOk (startSchedule s)) else .next (raiseError .costDomain s)

/-- The loop body of EKS_CONTINUE up to its YIELD or its end (R181): one iteration; at a boundary the command ends, by an
abort or with success; elsewhere PHASE is LOOP. -/
def eksLoop (s : State) : State :=
  let s := iterate s
  if atBoundary s then
    if s.abortReq then abortAtBoundary (markBoundary s) else completeOk (markBoundary s)
  else { s with phase := .loop }

/-- EKS_CONTINUE (R181), one engine step. It has no FINISH (log 4). -/
def execEksContinue (s : State) : Result :=
  match s.phase with
  | .start => if s.status.sched = .active then .next (eksLoop s) else .next (raiseError .sequence s)
  | .loop => .next (eksLoop s)
  | .finish => .fault .phaseUnreachable

end Sys2Proof.Machine
end

