-- ==== Sys2Proof/Machine/ChainUnit.lean ====
section
/-! DEFINITION. The chain unit and the whole-hash commands: Chain64, FixedEq, CHAIN64, HASH, VERIFY and ABORT
(43_hashing.md R210 to R218). -/

namespace Sys2Proof.Machine

/-- The six words of the chain phrase "OrpheanBeholderScryDoubt" (R211). -/
def chainPhrase : Vector Word 6 := #v[0x4F727068, 0x65616E42, 0x65686F6C, 0x64657253, 0x63727944, 0x6F756274]

/-- Block k of one chain pass (R211). -/
def chainBlock (cs : CipherState) (ws : Vector Word 6) (k : Fin 3) : Vector Word 6 :=
  let lr := encryptBlock cs ws[2 * k.val] ws[2 * k.val + 1]
  (ws.set (2 * k.val) lr.1).set (2 * k.val + 1) lr.2

/-- One pass of the chain over its three blocks (R211). -/
def chainPass (cs : CipherState) (ws : Vector Word 6) : Vector Word 6 := (List.finRange 3).foldl (chainBlock cs) ws

/-- Chain64 (R211): 64 passes from the phrase. -/
@[irreducible] def chain64 (cs : CipherState) : Vector Word 6 := (chainPass cs)^[64] chainPhrase

/-- FixedEq (R215): every position is read, whatever the others hold. -/
def fixedEq (a b : List Byte) (n : Nat) : Bool :=
  (List.range n).foldl (fun d k => d ||| (a.getD k 0 ^^^ b.getD k 0)) (0 : Byte) == 0

/-- CHAIN64 (R212). -/
def execChain64 (s : State) : Result := .next (completeOk { s with dig := chain64 s.cipher })

/-- The START step of HASH and VERIFY after their checks, up to the YIELD (R213). -/
def hashStart (s : State) : State := { startSchedule s with phase := .loop }

/-- Where the loop of HASH and VERIFY goes on after an iteration: the exit test of R213 (log 13). -/
def hashAdvance (s : State) : State :=
  { s with phase := if s.iter = s.iterTotal then .finish else .loop }

/-- One LOOP step of HASH and VERIFY (R213). -/
def hashLoop (s : State) : State :=
  let s := iterate s
  if atBoundary s then
    if s.abortReq then abortAtBoundary (markBoundary s) else hashAdvance (markBoundary s)
  else hashAdvance s

/-- The FINISH step of HASH and VERIFY before `complete_ok` (R213): DIG with DIGB[23] = 0, the digest field in TEXTB, P and S
zeroed, SCHED NONE. -/
def hashFinish (s : State) : State :=
  let ws := chain64 s.cipher
  let d := ws.set 5 (ws[5] &&& 0xFFFFFF00)
  setSched .none (setCipher CipherState.zero { s with dig := d, textw := digestText d })

/-- The last write of VERIFY: MATCH (R214). -/
def setMatch (s : State) : State :=
  { s with status := { s.status with matched := fixedEq s.textb s.refb 31 } }

/-- HASH (R213), one engine step. -/
def execHash (s : State) : Result :=
  match s.phase with
  | .start => if costOk s.cost then .next (hashStart s) else .next (raiseError .costDomain s)
  | .loop => .next (hashLoop s)
  | .finish => .next (completeOk (hashFinish s))

/-- VERIFY (R214), one engine step. -/
def execVerify (s : State) : Result :=
  match s.phase with
  | .start =>
    if costOk s.cost then
      if fieldOk (s.refb.take 31) 2 then .next (hashStart s) else .next (raiseError .digestGrammar s)
    else .next (raiseError .costDomain s)
  | .loop => .next (hashLoop s)
  | .finish => .next (completeOk (setMatch (hashFinish s)))

/-- ABORT issued while idle (R216): success and no other effect. -/
def execAbort (s : State) : Result := .next (completeOk s)

end Sys2Proof.Machine
end

