-- ==== Sys2Proof/Machine/Dispatch.lean ====
section
/-! DEFINITION. One engine step of a command: one arm per constructor of Instr. -/

namespace Sys2Proof.Machine

def exec (i : Instr) (s : State) : Host.Outcome State Fault Refusal :=
  match i with
  | .init => Sys2Proof.Machine.execInit s
  | .encrypt => Sys2Proof.Machine.execEncrypt s
  | .scrub => Sys2Proof.Machine.execScrub s
  | .abort => Sys2Proof.Machine.execAbort s
  | .expandSalted => Sys2Proof.Machine.execExpandSalted s
  | .expandKey => Sys2Proof.Machine.execExpandKey s
  | .expandSalt => Sys2Proof.Machine.execExpandSalt s
  | .eksStart => Sys2Proof.Machine.execEksStart s
  | .eksContinue => Sys2Proof.Machine.execEksContinue s
  | .chain64 => Sys2Proof.Machine.execChain64 s
  | .hash => Sys2Proof.Machine.execHash s
  | .verify => Sys2Proof.Machine.execVerify s
  | .b64EncSalt => Sys2Proof.Machine.execB64EncSalt s
  | .b64DecSalt => Sys2Proof.Machine.execB64DecSalt s
  | .b64EncDigest => Sys2Proof.Machine.execB64EncDigest s
  | .b64DecDigest => Sys2Proof.Machine.execB64DecDigest s

end Sys2Proof.Machine
end

