-- ==== Sys2Proof/Machine/Window.lean ====
section
/-! DEFINITION. The register window: the map of offsets to registers, the host's reads and writes, and the issue of
commands (10_state.md R24 to R61; 20_memory.md R84 to R88; 30_encoding.md R113, R116, R120). -/

namespace Sys2Proof.Machine

/-- The offset of a register (R120). -/
def Reg.offset : Reg → Nat
  | .id => 0x0000
  | .version => 0x0004
  | .cmd => 0x0008
  | .status => 0x000C
  | .irqEn => 0x0010
  | .errcode => 0x0014
  | .cost => 0x0018
  | .pwlen => 0x001C
  | .slice => 0x0020
  | .iter => 0x0024
  | .iterTotal => 0x0028
  | .blkL => 0x0030
  | .blkR => 0x0034
  | .pww i => 0x0040 + 4 * i
  | .saltw i => 0x0090 + 4 * i
  | .dig i => 0x00A0 + 4 * i
  | .textw i => 0x00C0 + 4 * i
  | .refw i => 0x00E0 + 4 * i
  | .p i => 0x0800 + 4 * i
  | .s b i => 0x1000 + 0x400 * b + 4 * i

/-- Word `off / 4` of a block of `n` registers that starts at `base`, if it lies there. -/
def blockIndex (base n off : Nat) : Option (Fin n) :=
  if h : base ≤ off ∧ (off - base) / 4 < n then some ⟨(off - base) / 4, h.2⟩ else none

/-- The registers at the fixed offsets of R61. -/
def controlRegAt (off : Nat) : Option Reg :=
  match off with
  | 0x0000 => some .id
  | 0x0004 => some .version
  | 0x0008 => some .cmd
  | 0x000C => some .status
  | 0x0010 => some .irqEn
  | 0x0014 => some .errcode
  | 0x0018 => some .cost
  | 0x001C => some .pwlen
  | 0x0020 => some .slice
  | 0x0024 => some .iter
  | 0x0028 => some .iterTotal
  | 0x0030 => some .blkL
  | 0x0034 => some .blkR
  | _ => none

/-- The register at an aligned offset of the window (R61); none where the offset is reserved (R49). -/
def regAt (off : Nat) : Option Reg :=
  if off < 0x0040 then controlRegAt off
  else if off < 0x0090 then (blockIndex 0x0040 18 off).map .pww
  else if off < 0x00A0 then (blockIndex 0x0090 4 off).map .saltw
  else if off < 0x00C0 then (blockIndex 0x00A0 6 off).map .dig
  else if off < 0x00E0 then (blockIndex 0x00C0 8 off).map .textw
  else if off < 0x0800 then (blockIndex 0x00E0 8 off).map .refw
  else if off < 0x1000 then (blockIndex 0x0800 18 off).map .p
  else (blockIndex 0x1000 1024 off).map fun (k : Fin 1024) => .s ⟨k / 256, Nat.div_lt_of_lt_mul k.isLt⟩ ⟨k % 256, Nat.mod_lt _ (by decide)⟩

/-- ID (R24), the ASCII of "TBCE". -/
def idValue : Word := 0x54424345

/-- VERSION (R24): major 1, minor 0. -/
def versionValue : Word := 0x00010000

/-- The value a register reads as while the engine is idle (R22 to R48). CMD reads 0 (R25). -/
def State.regValue (s : State) : Reg → Word
  | .id => idValue
  | .version => versionValue
  | .cmd => 0
  | .status => s.status.toWord
  | .irqEn => s.irqEn.toWord
  | .errcode => s.errcode.code.setWidth 32
  | .cost => s.cost
  | .pwlen => s.pwlen
  | .slice => s.slice
  | .iter => s.iter
  | .iterTotal => s.iterTotal
  | .blkL => s.blkL
  | .blkR => s.blkR
  | .pww i => s.pww[i]
  | .saltw i => s.saltw[i]
  | .dig i => s.dig[i]
  | .textw i => s.textw[i]
  | .refw i => s.refw[i]
  | .p i => s.cipher.P[i]
  | .s b i => s.cipher.S[b][i]

/-- What a host read of an aligned offset returns: 0 at a reserved offset (R49), 0 at 0x0030 and above while BUSY (R53),
else the register's value. A read changes no state (R87). -/
def State.hostRead (s : State) (off : Nat) : Word :=
  match regAt off with
  | none => 0
  | some r => if s.status.busy ∧ 0x0030 ≤ off then 0 else s.regValue r

/-- A write to CMD while idle (R113): the flags and ERRCODE are cleared; a legal word starts its command, any other fails at
once with ILLEGAL_CMD and never sets BUSY. -/
def issueIdle (v : Word) (s : State) : State :=
  let s := { s with status := s.status.clearOutcome, errcode := .none }
  match decodeWord v with
  | .ok _ => { s with status := { s.status with busy := true }, cur := v.extractLsb' 0 8, phase := .start }
  | .error _ => { s with status := { s.status with err := true }, errcode := .illegalCmd }

/-- The dropping of a write while BUSY (R32, R54). -/
def dropWrite (s : State) : State := { s with status := { s.status with ovr := true } }

/-- A write to CMD while BUSY (R116): the ABORT word sets ABORT_REQ, any other is dropped. -/
def issueBusy (v : Word) (s : State) : State :=
  if v = encode .abort then { s with abortReq := true } else dropWrite s

/-- What PWLEN stores for a written value (R38). -/
def pwlenWarl (v : Word) : Word := if v.toNat ≤ 72 then v else 72

/-- A host write to a register while idle (R24 to R48). PWW, PWLEN, SALTW, P and S break the schedule (R55). -/
def writeIdle (s : State) (r : Reg) (v : Word) : State :=
  match r with
  | .id | .version | .errcode | .iter | .iterTotal => s
  | .cmd => issueIdle v s
  | .status => { s with status := s.status.clearW1C v }
  | .irqEn => { s with irqEn := IrqEnable.ofWord v }
  | .cost => { s with cost := v }
  | .pwlen => setSched .none { s with pwlen := pwlenWarl v }
  | .slice => { s with slice := v }
  | .blkL => { s with blkL := v }
  | .blkR => { s with blkR := v }
  | .pww i => setSched .none { s with pww := s.pww.set i v }
  | .saltw i => setSched .none { s with saltw := s.saltw.set i v }
  | .dig i => { s with dig := s.dig.set i v }
  | .textw i => { s with textw := s.textw.set i v }
  | .refw i => { s with refw := s.refw.set i v }
  | .p i => setSched .none (setCipher (s.cipher.setP i v) s)
  | .s b i => setSched .none (setCipher (s.cipher.setS b i v) s)

/-- A host write to a register while BUSY (R54, R116). -/
def writeBusy (s : State) (r : Reg) (v : Word) : State :=
  match r with
  | .id | .version | .errcode | .iter | .iterTotal => s
  | .cmd => issueBusy v s
  | .status => { s with status := s.status.clearW1C v }
  | .irqEn => { s with irqEn := IrqEnable.ofWord v }
  | .cost | .pwlen | .slice | .blkL | .blkR | .pww _ | .saltw _ | .dig _ | .textw _ | .refw _ | .p _ | .s _ _ =>
    dropWrite s

/-- A host write of `v` at an aligned offset; a reserved offset ignores it and sets no flag (R49). -/
def State.hostWrite (s : State) (off : Nat) (v : Word) : State :=
  match regAt off with
  | none => s
  | some r => if s.status.busy then writeBusy s r v else writeIdle s r v

/-- The byte offset of an access. -/
def Access.off : Access → Nat
  | .read off _ => off
  | .write off _ _ => off

/-- The width of an access in bytes. -/
def Access.width : Access → Nat
  | .read _ w => w
  | .write _ w _ => w

/-- Why an access is outside the device contract, if it is (R84). Which name is given where several hold is the model's
(log 7). -/
def accessRefusal (a : Access) : Option Refusal :=
  if a.width ≠ 4 then some .wrongWidth
  else if a.off % 4 ≠ 0 then some .misaligned
  else if 0x1FFC < a.off then some .outsideWindow
  else none

end Sys2Proof.Machine
end

