-- ==== Sys2Proof/Machine/Agents.lean ====
section
/-! DEFINITION. The transitions of the two agents and of reset, and whose turn it is (00_scope.md R16, R19; 20_memory.md R90;
30_encoding.md R118, R119; 70_reset_and_hazards.md R340, R355). -/

namespace Sys2Proof.Machine

/-- Whose turn it is (R90): the head of `schedule`; when that list is empty, the engine's while it is busy, else the host's
while its program has a statement (R355, log 2). None: nothing is pending. -/
def State.turn (s : State) : Option Turn :=
  match s.schedule with
  | t :: _ => some t
  | [] => if s.status.busy then some .engine else if s.program.isEmpty then none else some .host

/-- The turn at the head of `schedule` is used up. -/
def State.popTurn (s : State) : State := { s with schedule := s.schedule.tail }

/-- The engine's turn (R16): while BUSY, one engine step of the command CUR names; while idle it has no step. -/
def engineTurn (s : State) : Result :=
  if s.status.busy then
    match decodeOpcode s.cur with
    | some i => exec i s
    | none => .fault .undecodableCur
  else .next s

/-- A defined access is performed (R86): a read's value is the statement's result (log 8). -/
def performAccess (a : Access) (s : State) : State :=
  match a with
  | .read off _ => { s with results := s.results ++ [s.hostRead off] }
  | .write off _ v => s.hostWrite off v

/-- An access is refused outside the device contract (R84), else performed. -/
def accessStep (a : Access) (s : State) : Result :=
  match accessRefusal a with
  | some r => .refused r
  | none => .next (performAccess a s)

/-- RD and the assertion that the value read, masked, equals `v` (R118). -/
def checkStep (off : Nat) (mask v : Word) (s : State) : Result :=
  match accessRefusal (.read off 4) with
  | some r => .refused r
  | none =>
    .next
      { performAccess (.read off 4) s with
        assertFailed := s.assertFailed || (s.hostRead off &&& mask) != v }

/-- The host's turn (R118, R119): its next statement makes one access. A WAIT that reads BUSY = 1 stays the next statement;
its reads are no results (log 8). A host with no statement left does nothing. -/
def hostTurn (s : State) : Result :=
  match s.program with
  | [] => .next s
  | .access a :: rest => accessStep a { s with program := rest }
  | .chk off v :: rest => checkStep off 0xFFFFFFFF v { s with program := rest }
  | .chkm off mask v :: rest => checkStep off mask v { s with program := rest }
  | .wait :: rest =>
    if (s.hostRead Reg.status.offset).getLsbD 0 then .next s else .next { s with program := rest }

/-- The reset event (R340): every piece of the device's state takes its reset value, whatever runs (R342). The host's own
state is not the device's and stays (log 15). -/
def resetTurn (s : State) : State :=
  { State.reset with
    program := s.program
    schedule := s.schedule
    results := s.results
    assertFailed := s.assertFailed }

/-- The transition of the given turn. -/
def takeTurn (t : Turn) (s : State) : Result :=
  match t with
  | .host => hostTurn s
  | .engine => engineTurn s
  | .rst => .next (resetTurn s)

/-- A command's word is latched as the running command, at its START, with the engine to move next (R113, log 6). -/
def latchCommand (w : Word) (s : State) : State :=
  let s := { s with status := { s.status with busy := true }, cur := w.extractLsb' 0 8, phase := .start }
  if s.turn = some .engine then s else { s with schedule := .engine :: s.schedule }

/-- A write of a word to CMD is made the host's next access, and the host's turn the next (R25, log 6). -/
def stageWrite (w : Word) (s : State) : State :=
  { s with
    program := .access (.write Reg.cmd.offset 4 w) :: s.program
    schedule := .host :: s.schedule }

end Sys2Proof.Machine
end

