-- ==== Sys2Proof/Machine/Step.lean ====
section
/-! DEFINITION. One transition of the machine (20_memory.md R90), and the placing of a command word where the next step
runs it. -/

namespace Sys2Proof.Machine

/-- One atomic transition: a host access, an engine step or reset (R90). When nothing is pending the state stays
(70_reset_and_hazards.md R343: the engine waits for a CMD write). -/
def step (s : State) : Host.Outcome State Fault Refusal :=
  match s.turn with
  | some t => takeTurn t s.popTurn
  | none => .next s

/-- `s` with the instruction word `w` placed so that the next step runs it. TB-BCE fetches nothing (10_state.md R23): a
command comes from a host write to CMD and the engine reads it from CUR, so a legal word is latched there; an illegal one
is staged as the write to CMD that the device answers with ILLEGAL_CMD or OVR (log 6). -/
def State.withFetchWord (s : State) (nbits w : Nat) : State :=
  match decodeTableWord nbits w with
  | some i => latchCommand (encode i) s
  | none => stageWrite (BitVec.ofNat 32 w) s

end Sys2Proof.Machine
end

