-- ==== Sys2Proof/Config.lean ====
section
/-! DEFINITION. The parameters the spec leaves open (00_scope.md R10): constants with no value, each shaped so that it
lies in its stated domain whatever it is. Log 10. -/

namespace Sys2Proof

/-- The two values of the encoding mode of PW_TRANSFORM (R10, R287); the spec names neither. -/
inductive PwMode where
  | modeA
  | modeB
deriving DecidableEq, Repr

/-- How many instances the platform has beyond the first. -/
opaque Config.furtherInstances : Nat

/-- N_INSTANCES, at least 1 (R10, R315). -/
def Config.nInstances : Nat := 1 + Config.furtherInstances

/-- The accepted scheme-version tags other than `2a`. -/
opaque Config.furtherPrefixes : List (Byte × Byte)

/-- ACCEPTED_PREFIXES: a finite set of two-character tags that contains `2a` (R10, R271). -/
def Config.acceptedPrefixes : List (Byte × Byte) := (0x32, 0x61) :: Config.furtherPrefixes

/-- Which accepted tag generation emits. -/
opaque Config.genPrefixChoice : Nat

/-- GEN_PREFIX: one element of ACCEPTED_PREFIXES (R10, R271). -/
def Config.genPrefix : Byte × Byte :=
  Config.acceptedPrefixes.getD (Config.genPrefixChoice % Config.acceptedPrefixes.length) (0x32, 0x61)

/-- Which cost of the range is the default. -/
opaque Config.defaultCostChoice : Nat

/-- DEFAULT_COST, in [4, 31] (R10, R283). -/
def Config.defaultCost : Nat := 4 + Config.defaultCostChoice % 28

/-- PW_TRANSFORM: the host's password to bytes transform and its mode (R10, R281, R287). DESIGN CHOICE (log 10): a password
is a string of Unicode characters; the spec says only "a password". -/
opaque Config.pwTransform : PwMode → String → List Byte

end Sys2Proof
end

