-- ==== Sys2Proof/Machine/Framing.lean ====
section
/-! DEFINITION. The host's side: pseudo-statements, the hash string, the host flows and error kinds (30_encoding.md R119;
45_host_framing.md R270 to R287). None of it is the engine's; strings are lists of ASCII codes (log 18). -/

namespace Sys2Proof.Machine

/-- `WR <reg>, v` (R118). -/
def wr (r : Reg) (v : Word) : Stmt := .access (.write r.offset 4 v)

/-- `RD <reg>` (R118). -/
def rd (r : Reg) : Stmt := .access (.read r.offset 4)

/-- `CMD <mnemonic>` (R119). -/
def cmd (i : Instr) : Stmt := wr .cmd (encode i)

/-- `RUN <mnemonic>` (R119). -/
def runCmd (i : Instr) : List Stmt := [cmd i, .wait]

/-- The byte buffers WRB and WRS write (R119). -/
inductive Buf where
  | pw
  | salt
  | dig
  | text
  | ref
deriving DecidableEq, Repr

/-- The offset of word 0 of a buffer (R120). -/
def Buf.base : Buf → Nat
  | .pw => (Reg.pww 0).offset
  | .salt => (Reg.saltw 0).offset
  | .dig => (Reg.dig 0).offset
  | .text => (Reg.textw 0).offset
  | .ref => (Reg.refw 0).offset

/-- `WRB <buf>, bytes` (R119): the words that hold the bytes, padded with 0x00; the words after them are not written.
DESIGN CHOICE (log 19): more bytes than the buffer holds are written on at the offsets that follow its last word. -/
def wrb (b : Buf) (bytes : List Byte) : List Stmt :=
  let n := (bytes.length + 3) / 4
  let ws := (wordsOfBytes n (bytes ++ List.replicate (4 * n - bytes.length) 0x00)).toList
  ws.zipIdx.map fun wi => .access (.write (b.base + 4 * wi.2) 4 wi.1)

/-- The buffers WRS writes (R119). -/
inductive TextBuf where
  | text
  | ref
deriving DecidableEq, Repr

/-- The buffer of characters as a buffer of bytes. -/
def TextBuf.toBuf : TextBuf → Buf
  | .text => .text
  | .ref => .ref

/-- `WRS <buf>, chars` (R119): WRB with the characters padded to 32 bytes; more than 32 characters are as in WRB (log 19). -/
def wrs (b : TextBuf) (chars : List Byte) : List Stmt := wrb b.toBuf (chars ++ List.replicate (32 - chars.length) 0x00)

/-- The field a parse failure names (R273). -/
inductive HashField where
  | schemeTag
  | cost
  | salt
  | digest
deriving DecidableEq, Repr

/-- The error kinds the host reports (R274, R285). -/
inductive HostError where
  | costDomain
  | saltGrammar (field : HashField)
  | cancelled
deriving DecidableEq, Repr

/-- What Parse returns (R273); the setting string of 29 characters has no digest field. -/
structure ParsedHash where
  tag : Byte × Byte
  cost : Nat
  saltField : List Byte
  digestField : Option (List Byte)
deriving DecidableEq, Repr

/-- The code of `$` (R270). -/
def dollar : Byte := 0x24

/-- The value of a decimal digit character (R272). -/
def digitValue (c : Byte) : Option Nat := if 0x30 ≤ c ∧ c ≤ 0x39 then some (c.toNat - 0x30) else none

/-- The value of the two cost characters, when both are digits (R272). -/
def costValue (c0 c1 : Byte) : Option Nat :=
  match digitValue c0, digitValue c1 with
  | some d0, some d1 => some (10 * d0 + d1)
  | _, _ => none

/-- The two digits of a cost, with a leading 0 below 10 (R275). -/
def costDigits (c : Nat) : List Byte := [BitVec.ofNat 8 (0x30 + c / 10), BitVec.ofNat 8 (0x30 + c % 10)]

/-- Parse (R273): the fields in the order tag, cost, salt, digest; the first that fails names the error. -/
def parseHash (t : List Byte) : Except HashField ParsedHash :=
  let tag := (t.getD 1 0, t.getD 2 0)
  if t.length < 4 ∨ t.getD 0 0 ≠ dollar ∨ t.getD 3 0 ≠ dollar ∨ tag ∉ Config.acceptedPrefixes then .error .schemeTag
  else if t.length < 7 ∨ t.getD 6 0 ≠ dollar then .error .cost
  else
    match costValue (t.getD 4 0) (t.getD 5 0) with
    | none => .error .cost
    | some c =>
      if ¬(4 ≤ c ∧ c ≤ 31) then .error .cost
      else if t.length < 29 ∨ fieldOk ((t.drop 7).take 22) 4 = false then .error .salt
      else if t.length = 29 then .ok { tag := tag, cost := c, saltField := t.drop 7, digestField := none }
      else if t.length ≠ 60 ∨ fieldOk (t.drop 29) 2 = false then .error .digest
      else .ok { tag := tag, cost := c, saltField := (t.drop 7).take 22, digestField := some (t.drop 29) }

/-- The first 29 characters: tag, cost and salt field between their separators (R270, R275). -/
def settingText (tag : Byte × Byte) (cost : Nat) (saltField : List Byte) : List Byte :=
  [dollar, tag.1, tag.2, dollar] ++ costDigits cost ++ [dollar] ++ saltField

/-- Format (R275) of a record that holds salt and digest bytes. -/
def formatHash (tag : Byte × Byte) (cost : Nat) (salt digest : List Byte) : List Byte :=
  settingText tag cost (b64Enc salt) ++ b64Enc digest

/-- Format of what Parse returned, its fields decoded to bytes first (R276). -/
def reformat (p : ParsedHash) : Option (List Byte) :=
  match b64Dec p.saltField 16, p.digestField.bind (b64Dec · 23) with
  | some salt, some digest => some (formatHash p.tag p.cost salt digest)
  | _, _ => none

/-- The error kind of a parse failure (R274). -/
def parseError : HashField → HostError
  | .cost => .costDomain
  | f => .saltGrammar f

/-- The error kind of an engine outcome (R285); codes 1 and 5 come from a defective host program and are none. -/
def engineError : ErrCode → Option HostError
  | .none | .illegalCmd | .sequence => none
  | .costDomain => some .costDomain
  | .saltGrammar => some (.saltGrammar .salt)
  | .digestGrammar => some (.saltGrammar .digest)
  | .aborted => some .cancelled

/-- The count of password bytes as the word written to PWLEN (R281), which stores min(n, 72). DESIGN CHOICE (log 20): a count
no 32-bit write can hold is written as the greatest one, which PWLEN stores as 72 too. -/
def passwordCount (pw : List Byte) : Word := BitVec.ofNat 32 (min pw.length 0xFFFFFFFF)

/-- The writes of the password bytes and their count (R281): at most 72 bytes are written. -/
def passwordWrites (pw : List Byte) : List Stmt := wrb .pw (pw.take 72) ++ [wr .pwlen (passwordCount pw)]

/-- The hash flow up to its HASH command (R277); mode 2 of R279 begins its EKS_START from the same operands. -/
def hashOperands (pw : List Byte) (cost : Nat) (saltField : List Byte) (slice : Word) : List Stmt :=
  passwordWrites pw ++ wrs .text saltField ++ runCmd .b64DecSalt ++
    [.chkm Reg.status.offset 0x4 0x0, wr .cost (BitVec.ofNat 32 cost), wr .slice slice]

/-- The engine part of the hash flow (R277). -/
def hashProgram (pw : List Byte) (cost : Nat) (saltField : List Byte) (slice : Word) : List Stmt :=
  hashOperands pw cost saltField slice ++ runCmd .hash ++
    [.chkm Reg.status.offset 0x6 0x2] ++ (List.finRange 8).map fun i => rd (.textw i)

/-- The verify flow up to its VERIFY command (R278). -/
def verifyOperands (pw : List Byte) (cost : Nat) (saltField digestField : List Byte) : List Stmt :=
  passwordWrites pw ++ wrs .text saltField ++ runCmd .b64DecSalt ++ wrs .ref digestField ++
    [wr .cost (BitVec.ofNat 32 cost)]

/-- The engine part of the verify flow (R278); the last value read is STATUS, whose bit 4 is the result. -/
def verifyProgram (pw : List Byte) (cost : Nat) (saltField digestField : List Byte) : List Stmt :=
  verifyOperands pw cost saltField digestField ++ runCmd .verify ++ [.chkm Reg.status.offset 0x6 0x2, rd .status]

/-- The hash flow up to the engine (R277): the setting is parsed, the password transformed in the given mode, read once
(R287). The type of a password is the model's (log 10). -/
def hashFlow (mode : PwMode) (password : String) (setting : List Byte) (slice : Word) :
    Except HostError (List Stmt) :=
  match parseHash setting with
  | .error f => .error (parseError f)
  | .ok p => .ok (hashProgram (Config.pwTransform mode password) p.cost p.saltField slice)

/-- The verify flow up to the engine (R278): a missing digest is a digest failure. -/
def verifyFlow (mode : PwMode) (password : String) (hashText : List Byte) : Except HostError (List Stmt) :=
  match parseHash hashText with
  | .error f => .error (parseError f)
  | .ok p =>
    match p.digestField with
    | none => .error (parseError .digest)
    | some d => .ok (verifyProgram (Config.pwTransform mode password) p.cost p.saltField d)

/-- The string the hash flow returns (R277), from the parsed setting and the TEXTB that HASH left. -/
def hashResult (p : ParsedHash) (textb : List Byte) : List Byte :=
  settingText p.tag p.cost p.saltField ++ textb.take 31

/-- What a hash or verify call returns when its command ends (R277, R278, R285). -/
inductive HostOutcome where
  /-- the hash string -/
  | text (t : List Byte)
  /-- the boolean of verify -/
  | matched (b : Bool)
  /-- an error, and no string; no kind: ERRCODE 1 or 5, which a defective host program alone causes -/
  | failed (kind : Option HostError)
deriving DecidableEq, Repr

/-- Which flow waits for its command: hash, with its parsed setting, or verify. -/
inductive HostFlow where
  | hash (p : ParsedHash)
  | verify
deriving DecidableEq, Repr

/-- The ERRCODE a word names (R36, R301). -/
def errCodeOfWord (w : Word) : Option ErrCode :=
  [ErrCode.none, .illegalCmd, .costDomain, .saltGrammar, .digestGrammar, .sequence, .aborted].find?
    fun c => c.code.setWidth 32 == w

/-- What a flow returns after DONE (R277, R278): the string of TEXTW, or MATCH. -/
def HostFlow.success (f : HostFlow) (status : Word) (text : List Word) : HostOutcome :=
  match f with
  | .hash p => .text (hashResult p (bytesOfWords text))
  | .verify => .matched (status.getLsbD 4)

/-- What a flow returns from the words of STATUS, ERRCODE and TEXTW (R285): after ERR the error and no string, whatever TEXTW
holds; after DONE its result; with neither the command has not ended. -/
def HostFlow.outcome (f : HostFlow) (status errcode : Word) (text : List Word) : Option HostOutcome :=
  if status.getLsbD 2 then some (.failed ((errCodeOfWord errcode).bind engineError))
  else if status.getLsbD 1 then some (f.success status text)
  else none

/-- What the flow returns to a host that reads the registers of `s` (R285). -/
def State.flowOutcome (f : HostFlow) (s : State) : Option HostOutcome :=
  f.outcome (s.hostRead Reg.status.offset) (s.hostRead Reg.errcode.offset)
    ((List.finRange 8).map fun i => s.hostRead (Reg.textw i).offset)

/-- The cost argument of salt generation (R283). -/
inductive CostArg where
  /-- none given -/
  | absent
  | integer (n : Int)
  /-- any other numeric value -/
  | numeric (q : Rat)
  /-- what is no number -/
  | notNumeric
deriving DecidableEq, Repr

/-- The integer a cost argument stands for (R283): the default when absent, a numeric value truncated; none: no number. -/
def CostArg.value : CostArg → Option Int
  | .absent => some Config.defaultCost
  | .integer n => some n
  | .numeric q => some (q.num.tdiv q.den)
  | .notNumeric => none

/-- Salt generation (R282, R283): the cost is checked; the 16 bytes come from the host's random source. -/
def generateSalt (cost : CostArg) (random : List Byte) : Except HostError (List Byte) :=
  match cost.value with
  | none => .error .costDomain
  | some c =>
    if 4 ≤ c ∧ c ≤ 31 then .ok (settingText Config.genPrefix c.toNat (b64Enc random)) else .error .costDomain

/-- The engine part of salt generation (R282); TEXTB[0..21] lies in TEXTW[0..5] (10_state.md R33), and no other word is read. -/
def generateSaltProgram (random : List Byte) : List Stmt :=
  wrb .salt random ++ runCmd .b64EncSalt ++ (List.finRange 6).map fun i => rd (.textw (i.castLE (by decide)))

end Sys2Proof.Machine
end

