-- ==== Sys2Proof/Machine/Platform.lean ====
section
/-! DEFINITION. A platform of several TB-BCE instances, which share no state (20_memory.md R93, 60_exceptions.md R315;
log 9, log 22). -/

namespace Sys2Proof.Machine

/-- One transition of instance `k` of a platform; the others keep their state (R93). No instance `k`: nothing moves. DESIGN
CHOICE (log 22): where the transition is refused or faults, that of the platform is, and no other instance goes on. -/
def platformStep (k : Nat) (pl : List State) : Host.Outcome (List State) Fault Refusal :=
  match pl[k]? with
  | none => .next pl
  | some s =>
    match step s with
    | .next t => .next (pl.set k t)
    | .fault r => .fault r
    | .refused r => .refused r

/-- The platform right after reset: N_INSTANCES instances (R315). -/
def platformReset : List State := List.replicate Config.nInstances State.reset

end Sys2Proof.Machine
end

