-- ==== Sys2Proof/Machine/Progress.lean ====
section
/-! DEFINITION. The asynchronous host flows with progress of 45_host_framing.md R279, each with one terminal outcome (log 21):
mode 1, HASH or VERIFY with SLICE > 0 and progress read at slice boundaries; mode 2, EKS_START and one EKS_CONTINUE per
slice. -/

namespace Sys2Proof.Machine

/-- A reported fraction, ITER / ITER_TOTAL (R279). -/
structure Fraction where
  num : Nat
  den : Nat
deriving DecidableEq, Repr

/-- `a` is less than `b`, compared across their denominators. -/
def Fraction.lt (a b : Fraction) : Bool := a.num * b.den < b.num * a.den

/-- The commands of mode 2 before its SCRUB (R279). -/
inductive SlicedCommand where
  | eksStart
  | eksContinue
  | chain64
  | b64EncDigest
deriving DecidableEq, Repr

/-- The command as an instruction. -/
def SlicedCommand.instr : SlicedCommand → Instr
  | .eksStart => .eksStart
  | .eksContinue => .eksContinue
  | .chain64 => .chain64
  | .b64EncDigest => .b64EncDigest

/-- What the host does next (R279): `poll` to `readText` are mode 1, `issue` to `awaitScrub` mode 2; `readError` and `ended` are
both. -/
inductive ProgressAt where
  /-- reads STATUS -/
  | poll
  /-- writes 0x8 to STATUS after a read that showed PROG -/
  | clear
  | readIter
  /-- reads ITER_TOTAL after this ITER -/
  | readTotal (iter : Word)
  /-- reads ERRCODE after a STATUS that showed ERR -/
  | readError (status : Word)
  /-- reads the next word of TEXTW after a STATUS that showed DONE and these words -/
  | readText (status : Word) (got : List Word)
  /-- writes this command to CMD -/
  | issue (c : SlicedCommand)
  /-- reads STATUS until this command has ended -/
  | await (c : SlicedCommand)
  /-- reads ITER after a slice; whether it was the last -/
  | readSliceIter (last : Bool)
  /-- reads ITER_TOTAL after this ITER -/
  | readSliceTotal (last : Bool) (iter : Word)
  /-- reads the next word of TEXTW after a STATUS that showed DONE and these words -/
  | readDigest (status : Word) (got : List Word)
  /-- writes SCRUB to CMD, with its outcome known -/
  | issueScrub (o : Option HostOutcome)
  /-- reads STATUS until SCRUB has ended -/
  | awaitScrub (o : Option HostOutcome)
  /-- has reported this outcome; none: reset took the command (70_reset_and_hazards.md R342) -/
  | ended (o : Option HostOutcome)
deriving DecidableEq, Repr

/-- A host in mode 1 or 2 of R279. -/
structure ProgressHost where
  flow : HostFlow
  /-- it takes `irq` and does not poll (mode 1) -/
  byIrq : Bool
  position : ProgressAt
  /-- the fractions reported, oldest first -/
  reports : List Fraction
deriving DecidableEq, Repr

/-- The access the host makes next; none once it has ended. -/
def ProgressHost.access (h : ProgressHost) : Option Access :=
  match h.position with
  | .poll => some (.read Reg.status.offset 4)
  | .clear => some (.write Reg.status.offset 4 0x8)
  | .readIter => some (.read Reg.iter.offset 4)
  | .readTotal _ => some (.read Reg.iterTotal.offset 4)
  | .readError _ => some (.read Reg.errcode.offset 4)
  | .readText _ got | .readDigest _ got => some (.read (Reg.textw (Fin.ofNat 8 got.length)).offset 4)
  | .issue c => some (.write Reg.cmd.offset 4 (encode c.instr))
  | .await _ | .awaitScrub _ => some (.read Reg.status.offset 4)
  | .readSliceIter _ => some (.read Reg.iter.offset 4)
  | .readSliceTotal _ _ => some (.read Reg.iterTotal.offset 4)
  | .issueScrub _ => some (.write Reg.cmd.offset 4 (encode .scrub))
  | .ended _ => none

/-- What a host that polls does after it read `v` in STATUS (R279): PROG first; then DONE or ERR; while BUSY it polls again; idle
with no outcome, reset took the command. -/
def ProgressHost.afterPoll (h : ProgressHost) (v : Word) : ProgressAt :=
  if v.getLsbD 3 then .clear
  else if v.getLsbD 2 then .readError v
  else if v.getLsbD 1 then
    match h.flow with
    | .hash _ => .readText v []
    | .verify => .ended (h.flow.outcome v 0 [])
  else if v.getLsbD 0 then .poll
  else .ended none

/-- What a host in mode 2 does after it read `v` in STATUS (R279): while BUSY it reads again; after ERR it goes on to no further
command; after DONE the next thing of EKS_START, EKS_CONTINUE once per slice until SCHED is COMPLETE (10_state.md R34),
CHAIN64, B64_ENC_DIGEST and the reads of TEXTW; idle with no outcome, reset took the command. -/
def SlicedCommand.after (c : SlicedCommand) (v : Word) : ProgressAt :=
  if v.getLsbD 0 then .await c
  else if v.getLsbD 2 then .readError v
  else if v.getLsbD 1 then
    match c with
    | .eksStart => .issue .eksContinue
    | .eksContinue => .readSliceIter (v.extractLsb' 6 2 == Sched.complete.bits)
    | .chain64 => .issue .b64EncDigest
    | .b64EncDigest => .readDigest v []
  else .ended none

/-- The reports after one of ITER and ITER_TOTAL (R279): the fraction is added if it is greater than the last one. DESIGN
CHOICE (log 21): an ITER_TOTAL that a reset made 0 before it was read is a denominator like any other, so n / 0 is reported,
or 0 / 0 when it is the first. -/
def ProgressHost.reported (h : ProgressHost) (iter total : Word) : List Fraction :=
  let f : Fraction := { num := iter.toNat, den := total.toNat }
  match h.reports.getLast? with
  | some last => if last.lt f then h.reports ++ [f] else h.reports
  | none => [f]

/-- The host after its access, with the value read (a write reads none). -/
def ProgressHost.observe (h : ProgressHost) (v : Word) : ProgressHost :=
  match h.position with
  | .poll => { h with position := h.afterPoll v }
  | .clear => { h with position := .readIter }
  | .readIter => { h with position := .readTotal v }
  | .readTotal iter => { h with position := .poll, reports := h.reported iter v }
  | .readError status => { h with position := .ended (h.flow.outcome status v []) }
  | .readText status got =>
    { h with
      position :=
        if got.length < 7 then .readText status (got ++ [v]) else .ended (h.flow.outcome status 0 (got ++ [v])) }
  | .issue c => { h with position := .await c }
  | .await c => { h with position := c.after v }
  | .readSliceIter last => { h with position := .readSliceTotal last v }
  | .readSliceTotal last iter =>
    { h with position := .issue (if last then .chain64 else .eksContinue), reports := h.reported iter v }
  | .readDigest status got =>
    { h with
      position :=
        if got.length < 7 then .readDigest status (got ++ [v])
        else .issueScrub (h.flow.outcome status 0 (got ++ [v])) }
  | .issueScrub o => { h with position := .awaitScrub o }
  | .awaitScrub o => if v.getLsbD 0 then h else { h with position := .ended o }
  | .ended _ => h

/-- A host that takes `irq` makes no access until the line is 1 (R279). DESIGN CHOICE (log 21): it learns of a reset from the
line alone; reset clears IRQ_EN, so a host that waits through a reset waits for ever and reports no outcome. -/
def ProgressHost.waits (h : ProgressHost) (s : State) : Bool := h.byIrq && h.position == .poll && !s.irq

/-- The host in mode 1 or 2 and the machine it drives. -/
structure ProgressRun where
  host : ProgressHost
  machine : State
deriving DecidableEq, Repr

/-- One access of a host whose statements up to the command are performed. -/
def ProgressRun.hostAccess (r : ProgressRun) : ProgressRun :=
  match r.host.access with
  | none => r
  | some a =>
    if r.host.waits r.machine then r
    else { host := r.host.observe (r.machine.hostRead a.off), machine := performAccess a r.machine }

/-- One transition of host, engine or reset around such a host: while its program lasts the host performs that. -/
def progressTurn (t : Turn) (r : ProgressRun) : Host.Outcome ProgressRun Fault Refusal :=
  if t = .host ∧ r.machine.program.isEmpty then .next r.hostAccess
  else
    match takeTurn t r.machine with
    | .next s => .next { r with machine := s }
    | .fault f => .fault f
    | .refused f => .refused f

/-- The transitions of `ts` in order. -/
def progressRun : List Turn → ProgressRun → Host.Outcome ProgressRun Fault Refusal
  | [], r => .next r
  | t :: ts, r =>
    match progressTurn t r with
    | .next r => progressRun ts r
    | .fault f => .fault f
    | .refused f => .refused f

/-- A host in mode 1 that has reported nothing yet. -/
def ProgressHost.start (flow : HostFlow) (byIrq : Bool) : ProgressHost :=
  { flow := flow, byIrq := byIrq, position := .poll, reports := [] }

/-- A host in mode 2 that has reported nothing yet. -/
def ProgressHost.startSliced (p : ParsedHash) : ProgressHost :=
  { flow := .hash p, byIrq := false, position := .issue .eksStart, reports := [] }

/-- The interrupt enables of a host that takes `irq`: PROG_IE (R279), and DONE_IE and ERR_IE for the outcome (log 21). -/
def irqEnables (byIrq : Bool) : List Stmt := if byIrq then [wr .irqEn 0x0E] else []

/-- The asynchronous hash flow (R277, R279): the host and the statements it performs up to its HASH, `slice` > 0. A call that
fails before it reaches the engine has that error as its one outcome (R274, R285). -/
def hashProgress (mode : PwMode) (password : String) (setting : List Byte) (slice : Word) (byIrq : Bool) :
    Except HostOutcome (ProgressHost × List Stmt) :=
  match parseHash setting with
  | .error f => .error (.failed (some (parseError f)))
  | .ok p =>
    .ok
      (.start (.hash p) byIrq,
        hashOperands (Config.pwTransform mode password) p.cost p.saltField slice ++ irqEnables byIrq ++ [cmd .hash])

/-- The asynchronous verify flow (R278, R279): the host and the statements it performs up to its VERIFY, `slice` > 0. -/
def verifyProgress (mode : PwMode) (password : String) (hashText : List Byte) (slice : Word) (byIrq : Bool) :
    Except HostOutcome (ProgressHost × List Stmt) :=
  match parseHash hashText with
  | .error f => .error (.failed (some (parseError f)))
  | .ok p =>
    match p.digestField with
    | none => .error (.failed (some (parseError .digest)))
    | some d =>
      .ok
        (.start .verify byIrq,
          verifyOperands (Config.pwTransform mode password) p.cost p.saltField d ++ [wr .slice slice] ++
            irqEnables byIrq ++ [cmd .verify])

/-- The sliced hash flow, mode 2 (R277, R279): the host and the statements it performs up to its EKS_START. SLICE = 0 is one
slice. -/
def slicedProgress (mode : PwMode) (password : String) (setting : List Byte) (slice : Word) :
    Except HostOutcome (ProgressHost × List Stmt) :=
  match parseHash setting with
  | .error f => .error (.failed (some (parseError f)))
  | .ok p =>
    .ok
      (ProgressHost.startSliced p, hashOperands (Config.pwTransform mode password) p.cost p.saltField slice)

end Sys2Proof.Machine
end

