-- ==== Sys2Proof/Safety.lean ====
section
/-! DEFINITION. What claims use: the invariant of the machine, programs within the device contract, the end of a run. -/

namespace Sys2Proof.Machine

/-- What every transition keeps. Each clause reads a sentence of the spec; reset has it. -/
structure State.Inv (s : State) : Prop where
  /-- PWLEN holds 0 to 72 (R38). -/
  pwlen_le : s.pwlen.toNat ≤ 72
  /-- While BUSY, CUR is an opcode (R51, R113). -/
  busy_cur : s.status.busy = true → (decodeOpcode s.cur).isSome = true
  /-- While idle, no abort is pending and CUR and PHASE are as at reset (R50, R51, log 3). -/
  idle_seq : s.status.busy = false → s.cur = 0 ∧ s.phase = .start ∧ s.abortReq = false
  /-- While BUSY, no outcome of an earlier command shows (R347). -/
  busy_flags : s.status.busy = true →
    s.status.done = false ∧ s.status.err = false ∧ s.status.matched = false ∧ s.errcode = .none
  /-- DONE and ERR are never both set (R29). -/
  one_outcome : ¬(s.status.done = true ∧ s.status.err = true)
  /-- A success has no error code, a failure has one (R36). -/
  done_code : s.status.done = true ∨ s.status.matched = true → s.errcode = .none
  err_code : s.status.err = true → s.errcode ≠ .none
  /-- ITER_TOTAL is 0 or 2^COST for a legal cost (R41). -/
  total_pow : s.iterTotal = 0 ∨ ∃ c, 4 ≤ c ∧ c ≤ 31 ∧ s.iterTotal.toNat = 2 ^ c
  /-- ITER counts up to ITER_TOTAL (R40). -/
  iter_le : s.iter.toNat ≤ s.iterTotal.toNat
  /-- ACTIVE: fewer than ITER_TOTAL iterations are done (R34). -/
  active_lt : s.status.sched = .active → s.iter.toNat < s.iterTotal.toNat
  /-- COMPLETE: all ITER_TOTAL iterations are done (R34). -/
  complete_eq : s.status.sched = .complete → s.iter = s.iterTotal
  /-- PHASE is past START only inside a command with several steps (R51). -/
  loop_cmd : s.phase = .loop →
    (s.cur = 0x14 ∨ s.cur = 0x21 ∨ s.cur = 0x22) ∧ s.status.sched = .active
  finish_cmd : s.phase = .finish → (s.cur = 0x21 ∨ s.cur = 0x22) ∧ s.status.sched = .complete
  /-- SLICE_CNT counts from the last boundary (R52). -/
  slice_zero : s.phase ≠ .loop → s.sliceCnt = 0
  slice_lt : s.phase = .loop → s.slice = 0 ∨ s.sliceCnt.toNat < s.slice.toNat

/-- A statement all of whose accesses are within the device contract (R84, R354). -/
def Stmt.admitted : Stmt → Bool
  | .access a => (accessRefusal a).isNone
  | .chk off _ => (accessRefusal (.read off 4)).isNone
  | .chkm off _ _ => (accessRefusal (.read off 4)).isNone
  | .wait => true

/-- A program of admitted statements. -/
def admittedProgram (p : List Stmt) : Bool := p.all Stmt.admitted

/-- A run has ended when the host has performed its last statement and BUSY = 0 (R355). -/
def State.runEnded (s : State) : Bool := s.program.isEmpty && !s.status.busy

/-- `k` turns of the engine alone, stopping where one does not answer a next state. -/
def engineRun : Nat → State → Result
  | 0, s => .next s
  | k + 1, s =>
    match engineTurn s with
    | .next t => engineRun k t
    | .fault r => .fault r
    | .refused r => .refused r

/-- `k` turns of the host alone, stopping where one does not answer a next state. -/
def hostRun : Nat → State → Result
  | 0, s => .next s
  | k + 1, s =>
    match hostTurn s with
    | .next t => hostRun k t
    | .fault r => .fault r
    | .refused r => .refused r

/-- P and S. -/
def Reg.inCipher : Reg → Bool
  | .p _ | .s _ _ => true
  | _ => false

/-- BLK_L and BLK_R. -/
def Reg.inBlk (r : Reg) : Bool := r == .blkL || r == .blkR

/-- SALTW. -/
def Reg.inSalt : Reg → Bool
  | .saltw _ => true
  | _ => false

/-- DIG. -/
def Reg.inDig : Reg → Bool
  | .dig _ => true
  | _ => false

/-- TEXTW. -/
def Reg.inText : Reg → Bool
  | .textw _ => true
  | _ => false

/-- What SCRUB zeroes (R145). -/
def Reg.inScrub : Reg → Bool
  | .p _ | .s _ _ | .blkL | .blkR | .pww _ | .pwlen | .saltw _ | .dig _ | .textw _ | .refw _ | .iter | .iterTotal => true
  | _ => false

/-- The host's own state is the same in both. -/
structure HostKept (s t : State) : Prop where
  program : t.program = s.program
  schedule : t.schedule = s.schedule
  results : t.results = s.results
  assertFailed : t.assertFailed = s.assertFailed

/-- `t` is `s` after a command that succeeded (00_scope.md R15) and wrote no register but those of `D`, with SCHED at
`sched`: the other flags, every other register and the host's state are unchanged. SLICE_CNT is left to the statement. -/
structure Succeeds (D : Reg → Bool) (sched : Sched) (s t : State) : Prop where
  status : t.status = { s.status with busy := false, done := true, sched := sched }
  abort : t.abortReq = false
  regs : ∀ r, D r = false → r ≠ .status → t.regValue r = s.regValue r
  host : HostKept s t

/-- `t` is `s` after a command that failed with `code` before it wrote anything (60_exceptions.md R302, R309): every register
but STATUS and ERRCODE, SLICE_CNT and the host's state are unchanged. -/
structure Fails (code : ErrCode) (s t : State) : Prop where
  status : t.status = { s.status with busy := false, err := true }
  errcode : t.errcode = code
  abort : t.abortReq = false
  regs : ∀ r, r ≠ .status → r ≠ .errcode → t.regValue r = s.regValue r
  sliceCnt : t.sliceCnt = s.sliceCnt
  host : HostKept s t

/-- The pair written to words 2k and 2k+1 of the CipherState in array order: P, then S[0] to S[3] (R174). -/
def CipherState.setPair (cs : CipherState) (k : Fin 521) (l r : Word) : CipherState :=
  if h : k.val < 9 then (cs.setP ⟨2 * k, by omega⟩ l).setP ⟨2 * k + 1, by omega⟩ r
  else
    let b : Fin 4 := ⟨(k - 9) / 128, by omega⟩
    (cs.setS b ⟨2 * ((k - 9) % 128), by omega⟩ l).setS b ⟨2 * ((k - 9) % 128) + 1, by omega⟩ r

/-- One of the 521 Encrypts of a Sweep (R174): the salt mixed in when there is one, the pair encrypted and written. -/
def sweepPair (salt : Option (List Byte)) (st : SweepState) (k : Fin 521) : SweepState :=
  let st := encryptPair (mixSalt salt st)
  { st with cs := st.cs.setPair k st.l st.r }

end Sys2Proof.Machine
end

