-- ==== Sys2Proof/Certificates/Slice0/Obligations.lean ====
section
/-! DEFINITION. The statements for the provers. -/

open Sys2Proof Sys2Proof.Machine

/-! ### Reset and the order of transitions -/

/-- R57, R341: what reset leaves, register by register and in the hidden state. -/
def Obligations.ResetLeavesSpecValues : Prop :=
  (∀ r : Reg, State.reset.regValue r = if r = .id then 0x54424345 else if r = .version then 0x00010000 else 0) ∧
    State.reset.sliceCnt = 0 ∧ State.reset.abortReq = false ∧ State.reset.status.busy = false ∧
    State.reset.status.sched = .none ∧ State.reset.irq = false

/-- R340, R342: reset is one transition from any state, BUSY or not; no outcome is delivered. That the host keeps its own
state is the model's choice (log 15). -/
def Obligations.ResetTurnGivesResetState : Prop :=
  ∀ (s : State) (rest : List Turn), s.schedule = .rst :: rest →
    ∃ t, step s = .next t ∧ (∀ r, t.regValue r = State.reset.regValue r) ∧ t.sliceCnt = 0 ∧ t.abortReq = false ∧
      t.status = State.reset.status ∧ t.schedule = rest ∧ t.program = s.program ∧ t.results = s.results ∧
      t.assertFailed = s.assertFailed

/-- The engine's turn while BUSY is one engine step of the command whose opcode CUR holds (R16, R51); the turn is used up and
nothing else happens around it. -/
def Obligations.StepRunsDecodedCommand : Prop :=
  ∀ (s : State) (w : Word) (i : Instr), s.turn = some .engine → s.status.busy = true → decodeWord w = .ok i →
    s.cur = w.extractLsb' 0 8 → step s = exec i { s with schedule := s.schedule.tail }

/-! ### Encoding -/

/-- R114, R115: a command word is one of sixteen values, selected by the whole word, and every other word is illegal; decoding
and encoding agree in both directions, on words and on byte strings. The byte order of the string is the model's choice
(log 5). -/
def Obligations.DecodeInvertsEncode : Prop :=
  (∀ (w : Word) (i : Instr), decodeWord w = .ok i ↔ w = encode i) ∧
    (∀ w : Word, commandWordWf w = true ↔ ∃ i, decodeWord w = .ok i) ∧
    ∀ (bs rest : List Byte) (i : Instr),
      decodeBytes bs = .ok (i, rest) ↔ i.wf = true ∧ bs = wordBytes (encode i) ++ rest

/-- Words written out from R114 and V27a. -/
def Obligations.WrittenOutWordsDecode : Prop :=
  (decodeWord 0x00000001).toOption = some .init ∧ (decodeWord 0x00000003).toOption = some .scrub ∧
    (decodeWord 0x00000011).toOption = some .expandKey ∧ (decodeWord 0x00000021).toOption = some .hash ∧
    (decodeWord 0x00000033).toOption = some .b64DecDigest ∧ (decodeWord 0x00000000).toOption = none ∧
    (decodeWord 0x00000121).toOption = none ∧ (decodeWord 0xFF000001).toOption = none

/-- R120: the offsets of the registers; names and offsets determine each other. -/
def Obligations.RegisterMapRoundTrip : Prop :=
  (Reg.id.offset = 0x0000 ∧ Reg.version.offset = 0x0004 ∧ Reg.cmd.offset = 0x0008 ∧ Reg.status.offset = 0x000C ∧
      Reg.irqEn.offset = 0x0010 ∧ Reg.errcode.offset = 0x0014 ∧ Reg.cost.offset = 0x0018 ∧ Reg.pwlen.offset = 0x001C ∧
      Reg.slice.offset = 0x0020 ∧ Reg.iter.offset = 0x0024 ∧ Reg.iterTotal.offset = 0x0028 ∧ Reg.blkL.offset = 0x0030 ∧
      Reg.blkR.offset = 0x0034 ∧ (∀ i, (Reg.pww i).offset = 0x0040 + 4 * i.val) ∧
      (∀ i, (Reg.saltw i).offset = 0x0090 + 4 * i.val) ∧ (∀ i, (Reg.dig i).offset = 0x00A0 + 4 * i.val) ∧
      (∀ i, (Reg.textw i).offset = 0x00C0 + 4 * i.val) ∧ (∀ i, (Reg.refw i).offset = 0x00E0 + 4 * i.val) ∧
      (∀ i, (Reg.p i).offset = 0x0800 + 4 * i.val) ∧ ∀ b i, (Reg.s b i).offset = 0x1000 + 0x400 * b.val + 4 * i.val) ∧
    (∀ r : Reg, regAt r.offset = some r ∧ r.offset % 4 = 0 ∧ r.offset ≤ 0x1FFC) ∧
    (∀ (off : Nat) (r : Reg), off % 4 = 0 → off ≤ 0x1FFC → regAt off = some r → r.offset = off)

/-! ### The window -/

/-- R84: exactly the accesses that are not 32 bits wide, not aligned or not in the window are refused. -/
def Obligations.OnlyDefinedAccessesPerformed : Prop :=
  ∀ (s : State) (a : Access) (rest : List Stmt), s.turn = some .host → s.program = .access a :: rest →
    ((∃ r, step s = .refused r) ↔ (a.width ≠ 4 ∨ a.off % 4 ≠ 0 ∨ 0x1FFC < a.off)) ∧
      (¬(∃ r, step s = .refused r) → ∃ t, step s = .next t)

/-- R53, R87: what a host read returns while BUSY, and that a read changes nothing of the device. -/
def Obligations.ReadsHaveNoSideEffects : Prop :=
  ∀ (s : State) (off : Nat),
    (s.status.busy = true → 0x0030 ≤ off → s.hostRead off = 0) ∧
      (∀ r, off < 0x0030 → regAt off = some r → s.hostRead off = s.regValue r) ∧
      (∀ r, s.status.busy = false → regAt off = some r → s.hostRead off = s.regValue r) ∧
      s.hostRead 0x0008 = 0 ∧
      ∃ kept, performAccess (.read off 4) s = { s with results := kept }

/-- R53: while BUSY nothing of CipherState, operands or results can be told from the values read. That a read appends its value
to `results` is the model's choice (log 8). -/
def Obligations.BusyReadsHideDataRegisters : Prop :=
  ∀ s s' : State, s.status.busy = true → s.status = s'.status → s.irqEn = s'.irqEn → s.errcode = s'.errcode →
    s.cost = s'.cost → s.pwlen = s'.pwlen → s.slice = s'.slice → s.iter = s'.iter → s.iterTotal = s'.iterTotal →
    ∀ off, s.hostRead off = s'.hostRead off ∧
      (performAccess (.read off 4) s).results = s.results ++ [s'.hostRead off]

/-- R49, and the ignored writes of R24, R36, R40, R41: offsets that no register has read 0 and ignore writes, read-only
registers ignore writes, while idle and while BUSY, and no flag is set. ID and VERSION read their constants always. -/
def Obligations.ReservedAndReadOnlyOffsets : Prop :=
  ∀ (s : State) (v : Word),
    (∀ off, off % 4 = 0 → off ≤ 0x1FFC → (∀ r : Reg, r.offset ≠ off) → s.hostRead off = 0 ∧ s.hostWrite off v = s) ∧
      (∀ r : Reg, r ∈ [Reg.id, .version, .errcode, .iter, .iterTotal] → s.hostWrite r.offset v = s) ∧
      s.hostRead 0x0000 = 0x54424345 ∧ s.hostRead 0x0004 = 0x00010000

/-- What a write while idle leaves in the register written, read back, and that no other register changes but STATUS.SCHED
(R22, R37 to R39, R42 to R48). -/
def Obligations.IdleWriteReadsBack : Prop :=
  ∀ (s : State) (r : Reg) (v : Word), s.status.busy = false → r ∉ [Reg.id, .version, .cmd, .status, .errcode, .iter, .iterTotal] →
    (s.hostWrite r.offset v).hostRead r.offset =
        (if r = .pwlen then (if v.toNat ≤ 72 then v else 72) else if r = .irqEn then v &&& 0x2E else v) ∧
      (∀ r', r' ≠ r → r' ≠ .status → (s.hostWrite r.offset v).regValue r' = s.regValue r') ∧
      (s.hostWrite r.offset v).sliceCnt = s.sliceCnt ∧ (s.hostWrite r.offset v).abortReq = s.abortReq ∧
      HostKept s (s.hostWrite r.offset v)

/-- R55: which writes while idle break the schedule. -/
def Obligations.ScheduleBreakingWrites : Prop :=
  ∀ (s : State) (v : Word), s.status.busy = false →
    (∀ r : Reg, (r = .pwlen ∨ (∃ i, r = .pww i) ∨ (∃ i, r = .saltw i) ∨ r.inCipher = true) →
        (s.hostWrite r.offset v).status = { s.status with sched := .none }) ∧
      (∀ r : Reg, (r = .irqEn ∨ r = .cost ∨ r = .slice ∨ r.inBlk = true ∨ r.inDig = true ∨ r.inText = true ∨ ∃ i, r = .refw i) →
        (s.hostWrite r.offset v).status = s.status)

/-- R54: what a host write does while BUSY, but for CMD. -/
def Obligations.BusyWritesDropped : Prop :=
  ∀ (s : State) (v : Word), s.status.busy = true →
    (∀ r : Reg, r ≠ .cmd →
      s.hostWrite r.offset v =
        if r = .status then { s with status := s.status.clearW1C v }
        else if r = .irqEn then { s with irqEn := IrqEnable.ofWord v }
        else if r ∈ [Reg.id, .version, .errcode, .iter, .iterTotal] then s
        else { s with status := { s.status with ovr := true } }) ∧
      ∀ off, off % 4 = 0 → off ≤ 0x1FFC → (∀ r : Reg, r.offset ≠ off) → s.hostWrite off v = s

/-- R26: the layout of STATUS with the values of SCHED (R34), its reset value, and the write-1-to-clear of its bits 1, 2, 3 and
5, while idle and while BUSY. -/
def Obligations.StatusWriteOneToClear : Prop :=
  State.reset.hostRead 0x000C = 0 ∧ ∀ (s : State) (w : Word),
    (s.hostRead 0x000C).getLsbD 0 = s.status.busy ∧ (s.hostRead 0x000C).getLsbD 1 = s.status.done ∧
      (s.hostRead 0x000C).getLsbD 2 = s.status.err ∧ (s.hostRead 0x000C).getLsbD 3 = s.status.prog ∧
      (s.hostRead 0x000C).getLsbD 4 = s.status.matched ∧ (s.hostRead 0x000C).getLsbD 5 = s.status.ovr ∧
      (s.status.sched, (s.hostRead 0x000C).extractLsb' 6 2) ∈ [(Sched.none, 0), (.active, 1), (.complete, 2)] ∧ (s.hostRead 0x000C).extractLsb' 8 24 = 0 ∧
      (s.hostWrite 0x000C w).hostRead 0x000C = s.hostRead 0x000C &&& ~~~(w &&& 0x2E) ∧
      s.hostWrite 0x000C w = { s with status := (s.hostWrite 0x000C w).status }

/-- R113: a write to CMD while idle; the command then runs as engine steps. The words ERRCODE reads as are those of R36 and
R301. -/
def Obligations.IssueWhileIdle : Prop :=
  (∀ s : State,
      (s.errcode, s.hostRead 0x0014) ∈
        [(ErrCode.none, 0), (.illegalCmd, 1), (.costDomain, 2), (.saltGrammar, 3), (.digestGrammar, 4), (.sequence, 5),
          (.aborted, 6)]) ∧
  ∀ (s : State) (v : Word), s.status.busy = false →
    (∀ i, decodeWord v = .ok i →
        s.hostWrite 0x0008 v =
            { s with
              status := { s.status with busy := true, done := false, err := false, prog := false, matched := false }
              errcode := .none
              cur := v.extractLsb' 0 8
              phase := .start } ∧
          engineTurn (s.hostWrite 0x0008 v) = exec i (s.hostWrite 0x0008 v)) ∧
      ((v.extractLsb' 8 24 ≠ 0 ∨ v.extractLsb' 0 8 ∉ opcodes) →
        s.hostWrite 0x0008 v =
          { s with
            status := { s.status with done := false, err := true, prog := false, matched := false }
            errcode := .illegalCmd })

/-- R116: a write to CMD while BUSY. -/
def Obligations.IssueWhileBusy : Prop :=
  ∀ (s : State) (v : Word), s.status.busy = true →
    s.hostWrite 0x0008 v =
      if v = 0x0000000E then { s with abortReq := true }
      else { s with status := { s.status with ovr := true } }

/-- R306: the interrupt line from the words the host reads in STATUS and IRQ_EN. -/
def Obligations.IrqIsEnabledPendingSource : Prop :=
  ∀ s : State,
    s.irq =
      (((s.hostRead 0x000C).getLsbD 1 && (s.hostRead 0x0010).getLsbD 1) ||
        ((s.hostRead 0x000C).getLsbD 2 && (s.hostRead 0x0010).getLsbD 2) ||
        ((s.hostRead 0x000C).getLsbD 3 && (s.hostRead 0x0010).getLsbD 3) ||
        ((s.hostRead 0x000C).getLsbD 5 && (s.hostRead 0x0010).getLsbD 5))

/-- R32: only a dropped host write sets OVR, and only a write-1-to-clear of STATUS or reset clears it. -/
def Obligations.OvrSetAndClearedOnlyAsStated : Prop :=
  ∀ s t : State, step s = .next t →
    (s.status.ovr = false → t.status.ovr = true →
        s.turn = some .host ∧ s.status.busy = true ∧ ∃ off v rest, s.program = .access (.write off 4 v) :: rest) ∧
      (s.status.ovr = true → t.status.ovr = false →
        s.turn = some .rst ∨
          (s.turn = some .host ∧
            ∃ v rest, s.program = .access (.write 0x000C 4 v) :: rest ∧ v.getLsbD 5 = true))

/-! ### Cipher unit -/

/-- R147: on the all-zero CipherState F is 0 and Encrypt exchanges the halves; ENCRYPT leaves P and S unchanged. -/
def Obligations.EncryptOnZeroStateSwaps : Prop :=
  (∀ x : Word, mixF CipherState.zero x = 0) ∧ (∀ l r : Word, encryptBlock CipherState.zero l r = (r, l)) ∧
    ∀ s : State, ∃ t, exec .encrypt s = .next t ∧ t.cipher = s.cipher

/-- Encrypt is a permutation of blocks for every P and S: a consequence of the Feistel form of R142. -/
def Obligations.EncryptIsInjective : Prop :=
  ∀ (cs : CipherState) (l r l' r' : Word), encryptBlock cs l r = encryptBlock cs l' r' → l = l' ∧ r = r'

/-- R76: XOR, sum, first and last word of each constant table and of all of them. -/
def Obligations.TablesPassTranscriptionChecks : Prop :=
  ∀ row ∈
      [(romP.toList, (0xB73AD7EA : Word), (0x8E4D14CC : Word), (0x243F6A88 : Word), (0x8979FB1B : Word)),
        (romS[0].toList, 0x4EB4DB7F, 0x4B745115, 0xD1310BA6, 0x6E85076A),
        (romS[1].toList, 0xC727E122, 0x72FF37B2, 0x4B7A70E9, 0xDB83ADF7),
        (romS[2].toList, 0x462A5D01, 0x2AC02B91, 0xE93D5A68, 0x406000E0),
        (romS[3].toList, 0x1779E2BC, 0xF43E3A88, 0x3A39CE37, 0x3AC372E6),
        (romP.toList ++ romS.toList.flatMap Vector.toList, 0x6FFA520A, 0x6BBF03AC, 0x243F6A88, 0x3AC372E6)],
    row.1.foldl (· ^^^ ·) 0 = row.2.1 ∧ row.1.foldl (· + ·) 0 = row.2.2.1 ∧ row.1.headD 0 = row.2.2.2.1 ∧
      row.1.getLastD 0 = row.2.2.2.2

/-- R143. -/
def Obligations.InitLoadsConstantTables : Prop :=
  (decodeWord 0x00000001).toOption = some .init ∧
    ∀ s : State, ∃ t, exec .init s = .next t ∧ (∀ i, t.regValue (.p i) = romP[i]) ∧
      (∀ b i, t.regValue (.s b i) = romS[b][i]) ∧ t.sliceCnt = s.sliceCnt ∧ Succeeds Reg.inCipher .none s t

/-- R144. -/
def Obligations.EncryptTransformsBlock : Prop :=
  (decodeWord 0x00000002).toOption = some .encrypt ∧
    ∀ s : State, ∃ t, exec .encrypt s = .next t ∧
      (t.regValue .blkL, t.regValue .blkR) = encryptBlock s.cipher (s.regValue .blkL) (s.regValue .blkR) ∧
      t.sliceCnt = s.sliceCnt ∧ Succeeds Reg.inBlk s.status.sched s t

/-- R145. -/
def Obligations.ScrubZeroesData : Prop :=
  (decodeWord 0x00000003).toOption = some .scrub ∧
    ∀ s : State, ∃ t, exec .scrub s = .next t ∧ (∀ r, r.inScrub = true → t.regValue r = 0) ∧ t.sliceCnt = 0 ∧
      Succeeds Reg.inScrub .none s t

/-! ### Key-schedule unit -/

/-- R171: StreamWord is the next four bytes of the cyclic stream, most significant first. -/
def Obligations.StreamWordIsCyclic : Prop :=
  ∀ (d : List Byte) (j : Nat), j < d.length →
    streamWord d j =
      (be32 (d.getD j 0) (d.getD ((j + 1) % d.length) 0) (d.getD ((j + 2) % d.length) 0)
          (d.getD ((j + 3) % d.length) 0),
        (j + 4) % d.length)

/-- R172: the key is the first PWLEN bytes of PWB and the terminator, at most 72 bytes; PWB byte k lies in PWW as R33 says. -/
def Obligations.KeyBytesTerminatedAndTruncated : Prop :=
  ∀ s : State, s.pwlen.toNat ≤ 72 →
    s.keyBytes.length = min (s.pwlen.toNat + 1) 72 ∧
      (∀ k : Fin 72, k.val < s.pwlen.toNat →
        s.keyBytes.getD k 0 = (s.pww[k.val / 4]'(by omega)).extractLsb' (24 - 8 * (k.val % 4)) 8) ∧
      (s.pwlen.toNat < 72 → s.keyBytes.getD s.pwlen.toNat 0 = 0x00)

/-- R173: word i of the P-box is mixed with the stream word at position 4i; S is untouched. -/
def Obligations.XorKeyMixesCyclicStream : Prop :=
  ∀ (d : List Byte) (cs : CipherState), d ≠ [] →
    (∀ i : Fin 18, (xorKey d cs).P[i] = cs.P[i] ^^^ (streamWord d (4 * i.val % d.length)).1) ∧
      (xorKey d cs).S = cs.S

/-- R186: the empty password's key is the one byte 0x00, every stream word of it is 0, and mixing it changes nothing. -/
def Obligations.EmptyPasswordMixesNothing : Prop :=
  ∀ (s : State) (cs : CipherState), s.pwlen = 0 →
    s.keyBytes = [0x00] ∧ (∀ j, j < 1 → streamWord s.keyBytes j = (0, 0)) ∧ xorKey s.keyBytes cs = cs

/-- R174: a Sweep is 521 Encrypts of one running pair from (0, 0), each written to the next two words in array order, with the
salt stream carried along from position 0. -/
def Obligations.SweepIsOneLoopOf521Encrypts : Prop :=
  ∀ (salt : Option (List Byte)) (cs : CipherState),
    sweep salt cs = ((List.finRange 521).foldl (sweepPair salt) { cs := cs, l := 0, r := 0, j := 0 }).cs

/-- R175, R176, R177: the three single-pass commands, and their corner cases: a salt of zero bytes and an empty password. -/
def Obligations.ExpandCommandsRunOnePass : Prop :=
  (decodeWord 0x00000010).toOption = some .expandSalted ∧ (decodeWord 0x00000011).toOption = some .expandKey ∧
    (decodeWord 0x00000012).toOption = some .expandSalt ∧
    ∀ s : State,
      (∃ t, exec .expandSalted s = .next t ∧ t.cipher = sweep (some s.saltb) (xorKey s.keyBytes s.cipher) ∧
          t.sliceCnt = s.sliceCnt ∧ Succeeds Reg.inCipher .none s t) ∧
        (∃ t, exec .expandKey s = .next t ∧ t.cipher = sweep none (xorKey s.keyBytes s.cipher) ∧
          t.sliceCnt = s.sliceCnt ∧ Succeeds Reg.inCipher .none s t) ∧
        (∃ t, exec .expandSalt s = .next t ∧ t.cipher = sweep none (xorKey s.saltb s.cipher) ∧
          t.sliceCnt = s.sliceCnt ∧ Succeeds Reg.inCipher .none s t) ∧
        (s.saltw = Vector.replicate 4 0 → exec .expandSalted s = exec .expandKey s) ∧
        (s.pwlen = 0 → xorKey s.keyBytes s.cipher = s.cipher)

/-- R180, with the check of R179. -/
def Obligations.EksStartBeginsSchedule : Prop :=
  (decodeWord 0x00000013).toOption = some .eksStart ∧
    ∀ s : State,
      (4 ≤ s.cost.toNat → s.cost.toNat ≤ 31 →
          ∃ t, exec .eksStart s = .next t ∧ t.cipher = sweep (some s.saltb) (xorKey s.keyBytes romCipher) ∧
            t.iter = 0 ∧ t.iterTotal.toNat = 2 ^ s.cost.toNat ∧ t.sliceCnt = 0 ∧
            Succeeds (fun r => r.inCipher || r == .iter || r == .iterTotal) .active s t) ∧
        (s.cost.toNat < 4 ∨ 31 < s.cost.toNat → ∃ t, exec .eksStart s = .next t ∧ Fails .costDomain s t)

/-- R181 with R182 and R178: one engine step of EKS_CONTINUE, at START and at LOOP, in every way it can end. -/
def Obligations.EksContinueStep : Prop :=
  (decodeWord 0x00000014).toOption = some .eksContinue ∧
  ∀ s : State,
    (s.phase = .start → s.status.sched ≠ .active → ∃ t, exec .eksContinue s = .next t ∧ Fails .sequence s t) ∧
      (s.phase = .loop ∨ (s.phase = .start ∧ s.status.sched = .active) →
        ∃ t, exec .eksContinue s = .next t ∧ t.iter = s.iter + 1 ∧ HostKept s t ∧
          (∀ r, r.inCipher = false → r ∉ [Reg.status, .errcode, .iter] → t.regValue r = s.regValue r) ∧
          (¬((s.slice ≠ 0 ∧ s.sliceCnt + 1 = s.slice) ∨ s.iter + 1 = s.iterTotal) →
            t.cipher = sweep none (xorKey s.saltb (sweep none (xorKey s.keyBytes s.cipher))) ∧
              t.status = s.status ∧ t.errcode = s.errcode ∧ t.phase = .loop ∧ t.cur = s.cur ∧
              t.sliceCnt = s.sliceCnt + 1 ∧ t.abortReq = s.abortReq) ∧
          ((s.slice ≠ 0 ∧ s.sliceCnt + 1 = s.slice) ∨ s.iter + 1 = s.iterTotal → s.abortReq = false →
            t.cipher = sweep none (xorKey s.saltb (sweep none (xorKey s.keyBytes s.cipher))) ∧
              t.status =
                { s.status with
                  busy := false
                  done := true
                  prog := true
                  sched := if s.iter + 1 = s.iterTotal then .complete else s.status.sched } ∧
              t.errcode = s.errcode ∧ t.sliceCnt = 0 ∧ t.abortReq = false) ∧
          ((s.slice ≠ 0 ∧ s.sliceCnt + 1 = s.slice) ∨ s.iter + 1 = s.iterTotal → s.abortReq = true →
            t.cipher = CipherState.zero ∧
              t.status = { s.status with busy := false, err := true, prog := true, sched := .none } ∧
              t.errcode = .aborted ∧ t.sliceCnt = 0 ∧ t.abortReq = false))

/-- The model's choice (log 4): EKS_CONTINUE has no FINISH step, so at PHASE FINISH it stops by name; no run gets there. -/
def Obligations.EksContinueStopsAtFinish : Prop :=
  ∀ s : State, s.phase = .finish →
    exec .eksContinue s = .fault .phaseUnreachable ∧
      (s.status.busy = true → s.cur = 0x14 → ¬s.Inv)

/-- R181: a whole EKS_CONTINUE command with no abort runs SLICE iterations, or the remaining ones when SLICE is 0 or larger,
and ends with DONE and PROG at a slice boundary. -/
def Obligations.EksContinueRunsOneSlice : Prop :=
  ∀ (s : State) (n : Nat), s.Inv → s.status.busy = true → s.cur = 0x14 → s.phase = .start → s.status.sched = .active →
    s.abortReq = false →
    n = (if s.slice = 0 then s.iterTotal.toNat - s.iter.toNat
      else min s.slice.toNat (s.iterTotal.toNat - s.iter.toNat)) →
    ∃ t, engineRun n s = .next t ∧ t.cipher = (iterateCipher s.keyBytes s.saltb)^[n] s.cipher ∧
      t.iter.toNat = s.iter.toNat + n ∧ 0 < n ∧ t.sliceCnt = 0 ∧ t.abortReq = false ∧
      t.status =
        { s.status with
          busy := false
          done := true
          prog := true
          sched := if s.iter.toNat + n = s.iterTotal.toNat then .complete else .active } ∧
      (∀ r, r.inCipher = false → r ≠ .status → r ≠ .iter → t.regValue r = s.regValue r)

/-- R183, R55: whatever the host writes and however the turns fall, while SCHED is not NONE the CipherState is ITER iterations
of the schedule of the key and salt the registers hold now. -/
def Obligations.ScheduleInvariantKept : Prop :=
  ∀ s t : State, s.Inv → step s = .next t →
    (s.status.sched ≠ .none →
      s.cipher = (iterateCipher s.keyBytes s.saltb)^[s.iter.toNat] (expandSalted s.keyBytes s.saltb romCipher)) →
    t.status.sched ≠ .none →
    t.cipher = (iterateCipher t.keyBytes t.saltb)^[t.iter.toNat] (expandSalted t.keyBytes t.saltb romCipher)

/-! ### Chain unit and whole-hash commands -/

/-- R210, R211: each of the three blocks of the chain is encrypted 64 times on its own, from its two words of the phrase. -/
def Obligations.ChainBlocksAreIndependent : Prop :=
  chainPhrase = #v[0x4F727068, 0x65616E42, 0x65686F6C, 0x64657253, 0x63727944, 0x6F756274] ∧
    bytesOfWords chainPhrase.toList = "OrpheanBeholderScryDoubt".toList.map (fun c => BitVec.ofNat 8 c.toNat) ∧
    ∀ (cs : CipherState) (k : Fin 3),
      ((chain64 cs)[2 * k.val], (chain64 cs)[2 * k.val + 1]) =
        (fun p : Word × Word => encryptBlock cs p.1 p.2)^[64] (chainPhrase[2 * k.val], chainPhrase[2 * k.val + 1])

/-- R212, with its corner case (V20): on the all-zero state the chain gives its phrase back. -/
def Obligations.Chain64WritesDigest : Prop :=
  (decodeWord 0x00000020).toOption = some .chain64 ∧ chain64 CipherState.zero = chainPhrase ∧
    ∀ s : State, ∃ t, exec .chain64 s = .next t ∧ (∀ i, t.regValue (.dig i) = (chain64 s.cipher)[i]) ∧
      t.sliceCnt = s.sliceCnt ∧ Succeeds Reg.inDig s.status.sched s t

/-- R215: FixedEq is equality of the first n positions. -/
def Obligations.FixedEqIsEquality : Prop :=
  ∀ (a b : List Byte) (n : Nat), fixedEq a b n = true ↔ ∀ k, k < n → a.getD k 0 = b.getD k 0

/-- The START step of HASH and VERIFY (R213, R214), with the order of their checks (R307). -/
def Obligations.HashVerifyStartStep : Prop :=
  (decodeWord 0x00000021).toOption = some .hash ∧ (decodeWord 0x00000022).toOption = some .verify ∧
  ∀ (s : State) (i : Instr), i = .hash ∨ i = .verify → s.phase = .start →
    (s.cost.toNat < 4 ∨ 31 < s.cost.toNat → ∃ t, exec i s = .next t ∧ Fails .costDomain s t) ∧
      (4 ≤ s.cost.toNat → s.cost.toNat ≤ 31 → i = .verify → fieldOk (s.refb.take 31) 2 = false →
        ∃ t, exec i s = .next t ∧ Fails .digestGrammar s t) ∧
      (4 ≤ s.cost.toNat → s.cost.toNat ≤ 31 → (i = .verify → fieldOk (s.refb.take 31) 2 = true) →
        ∃ t, exec i s = .next t ∧ t.cipher = sweep (some s.saltb) (xorKey s.keyBytes romCipher) ∧ t.iter = 0 ∧
          t.iterTotal.toNat = 2 ^ s.cost.toNat ∧ t.sliceCnt = 0 ∧ t.status = { s.status with sched := .active } ∧
          t.phase = .loop ∧ t.cur = s.cur ∧ t.abortReq = s.abortReq ∧ HostKept s t ∧
          ∀ r, r.inCipher = false → r ∉ [Reg.status, .iter, .iterTotal] → t.regValue r = s.regValue r)

/-- One LOOP step of HASH and VERIFY (R213, R214, R182). That PHASE leaves LOOP in the step of the last iteration is the
model's reading of where the exit test falls (log 13). -/
def Obligations.HashVerifyLoopStep : Prop :=
  ∀ (s : State) (i : Instr), i = .hash ∨ i = .verify → s.phase = .loop →
    ∃ t, exec i s = .next t ∧ t.iter = s.iter + 1 ∧ HostKept s t ∧
      (∀ r, r.inCipher = false → r ∉ [Reg.status, .errcode, .iter] → t.regValue r = s.regValue r) ∧
      (s.abortReq = false ∨ ¬((s.slice ≠ 0 ∧ s.sliceCnt + 1 = s.slice) ∨ s.iter + 1 = s.iterTotal) →
        t.cipher = sweep none (xorKey s.saltb (sweep none (xorKey s.keyBytes s.cipher))) ∧
          t.errcode = s.errcode ∧ t.cur = s.cur ∧ t.abortReq = s.abortReq ∧
          t.phase = (if s.iter + 1 = s.iterTotal then .finish else .loop) ∧
          (if (s.slice ≠ 0 ∧ s.sliceCnt + 1 = s.slice) ∨ s.iter + 1 = s.iterTotal then
            t.sliceCnt = 0 ∧
              t.status =
                { s.status with
                  prog := true
                  sched := if s.iter + 1 = s.iterTotal then .complete else s.status.sched }
          else t.sliceCnt = s.sliceCnt + 1 ∧ t.status = s.status)) ∧
      (s.abortReq = true → (s.slice ≠ 0 ∧ s.sliceCnt + 1 = s.slice) ∨ s.iter + 1 = s.iterTotal →
        t.cipher = CipherState.zero ∧
          t.status = { s.status with busy := false, err := true, prog := true, sched := .none } ∧
          t.errcode = .aborted ∧ t.sliceCnt = 0 ∧ t.abortReq = false)

/-- The FINISH step of HASH and VERIFY (R213, R214): the digest and its text are written, P and S zeroed; VERIFY also sets
MATCH by comparing the 31 characters with REFB. A pending abort has no effect (R216). -/
def Obligations.HashVerifyFinishStep : Prop :=
  ∀ (s : State) (i : Instr), i = .hash ∨ i = .verify → s.phase = .finish →
    ∃ t, exec i s = .next t ∧
      t.digb = (bytesOfWords (chain64 s.cipher).toList).take 23 ++ [0x00] ∧
      t.textb = b64Enc ((bytesOfWords (chain64 s.cipher).toList).take 23) ++ [0x00] ∧
      t.cipher = CipherState.zero ∧ t.sliceCnt = s.sliceCnt ∧ t.abortReq = false ∧ HostKept s t ∧
      t.status =
        { s.status with
          busy := false
          done := true
          sched := .none
          matched := if i = .verify then decide (t.textb.take 31 = s.refb.take 31) else s.status.matched } ∧
      ∀ r, r.inCipher = false → r.inDig = false → r.inText = false → r ≠ .status → t.regValue r = s.regValue r

/-- R213: a whole HASH with a legal cost and no abort takes 2^COST + 2 engine steps and leaves the digest of EksState, whatever
SLICE and the CipherState before it. The number of steps rests on log 13. -/
def Obligations.HashComputesDigest : Prop :=
  ∀ s : State, s.status.busy = true → s.cur = 0x21 → s.phase = .start → s.abortReq = false → 4 ≤ s.cost.toNat →
    s.cost.toNat ≤ 31 →
    ∃ t, engineRun (2 ^ s.cost.toNat + 2) s = .next t ∧
      t.digb = (bytesOfWords (chain64 (eksState s.keyBytes s.saltb s.cost.toNat)).toList).take 23 ++ [0x00] ∧
      t.textb = b64Enc (t.digb.take 23) ++ [0x00] ∧ t.cipher = CipherState.zero ∧
      t.iter.toNat = 2 ^ s.cost.toNat ∧ t.iterTotal.toNat = 2 ^ s.cost.toNat ∧
      t.status = { s.status with busy := false, done := true, prog := true, sched := .none } ∧
      ∀ r, r.inCipher = false → r.inDig = false → r.inText = false → r ∉ [Reg.status, .iter, .iterTotal] →
        t.regValue r = s.regValue r

/-- R214: a whole VERIFY with a legal cost, a well-formed reference and no abort: MATCH is 1 exactly when the recomputed digest
field is REFB[0..30]. The number of steps rests on log 13. -/
def Obligations.VerifyComparesDigestField : Prop :=
  ∀ s : State, s.status.busy = true → s.cur = 0x22 → s.phase = .start → s.abortReq = false → 4 ≤ s.cost.toNat →
    s.cost.toNat ≤ 31 → fieldOk (s.refb.take 31) 2 = true →
    ∃ t, engineRun (2 ^ s.cost.toNat + 2) s = .next t ∧ t.status.done = true ∧ t.status.err = s.status.err ∧
      t.status.busy = false ∧
      (t.status.matched = true ↔
        b64Enc ((bytesOfWords (chain64 (eksState s.keyBytes s.saltb s.cost.toNat)).toList).take 23) =
          s.refb.take 31) ∧
      t.cipher = CipherState.zero ∧ t.errcode = s.errcode ∧ ∀ i, t.regValue (.refw i) = s.regValue (.refw i)

/-- R216: ABORT while idle succeeds and does nothing else; while BUSY it sets ABORT_REQ; a command with no slice boundary left
ignores it, and a command at a slice boundary ends with ABORTED, P and S zeroed. -/
def Obligations.AbortActsOnlyAtBoundary : Prop :=
  (decodeWord 0x0000000E).toOption = some .abort ∧
    ∀ s : State,
      (∃ t, exec .abort s = .next t ∧ t.sliceCnt = s.sliceCnt ∧ Succeeds (fun _ => false) s.status.sched s t) ∧
        (s.status.busy = true → s.hostWrite 0x0008 0x0000000E = { s with abortReq := true }) ∧
        (∀ i : Instr, (i ∉ [Instr.eksContinue, .hash, .verify] ∨ (i ≠ .eksContinue ∧ s.phase = .finish)) →
          exec i { s with abortReq := true } = exec i { s with abortReq := false }) ∧
        (∀ i : Instr, i ∈ [Instr.eksContinue, .hash, .verify] → s.phase = .loop → s.abortReq = true →
          (s.slice ≠ 0 ∧ s.sliceCnt + 1 = s.slice) ∨ s.iter + 1 = s.iterTotal →
          ∃ t, exec i s = .next t ∧ t.cipher = CipherState.zero ∧ t.status.sched = .none ∧ t.status.err = true ∧
            t.status.busy = false ∧ t.errcode = .aborted ∧ t.abortReq = false)

/-! ### Base64 unit -/

/-- R240: Alpha and Index are inverse, and the alphabet is the 64-character string. -/
def Obligations.AlphabetIndexInverse : Prop :=
  (∀ v, v < 64 → indexOf (alpha v) = some v) ∧ (∀ c v, indexOf c = some v → v < 64 ∧ alpha v = c) ∧
    (List.range 64).map alpha =
      "./ABCDEFGHIJKLMNOPQRSTUVWXYZabcdefghijklmnopqrstuvwxyz0123456789".toList.map fun c => BitVec.ofNat 8 c.toNat

/-- R249: (1) what the encoder writes passes the field check and decodes to the bytes; (2) a field that passes the check is
restored; and so the two salt commands undo each other. -/
def Obligations.Base64RoundTrip : Prop :=
  (∀ b : List Byte,
      (b.length = 16 → (b64Enc b).length = 22 ∧ fieldOk (b64Enc b) 4 = true ∧ b64Dec (b64Enc b) 16 = some b) ∧
        (b.length = 23 → (b64Enc b).length = 31 ∧ fieldOk (b64Enc b) 2 = true ∧ b64Dec (b64Enc b) 23 = some b)) ∧
    (∀ t : List Byte,
      (t.length = 22 → fieldOk t 4 = true → ∃ b, b64Dec t 16 = some b ∧ b.length = 16 ∧ b64Enc b = t) ∧
        (t.length = 31 → fieldOk t 2 = true → ∃ b, b64Dec t 23 = some b ∧ b.length = 23 ∧ b64Enc b = t)) ∧
    ∀ s : State,
      (fieldOk (s.textb.take 22) 4 = true →
          ∃ t u, exec .b64DecSalt s = .next t ∧ exec .b64EncSalt t = .next u ∧ u.textb.take 22 = s.textb.take 22) ∧
        ∃ t u, exec .b64EncSalt s = .next t ∧ exec .b64DecSalt t = .next u ∧ u.saltw = s.saltw

/-- R244: the valid last characters of a salt field and of a digest field are exactly these. -/
def Obligations.FieldLastCharacters : Prop :=
  ∀ (t : List Byte) (c : Byte), (∀ x ∈ t, (indexOf x).isSome = true) →
    (fieldOk (t ++ [c]) 4 = true ↔ c ∈ [0x2E, 0x4F, 0x65, 0x75]) ∧
      (fieldOk (t ++ [c]) 2 = true ↔
        c ∈ [0x2E, 0x43, 0x47, 0x4B, 0x4F, 0x53, 0x57, 0x61, 0x65, 0x69, 0x6D, 0x71, 0x75, 0x79, 0x32, 0x36])

/-- R245, R247: the two encoders. -/
def Obligations.Base64EncodersWriteText : Prop :=
  (decodeWord 0x00000030).toOption = some .b64EncSalt ∧ (decodeWord 0x00000032).toOption = some .b64EncDigest ∧
    ∀ s : State,
      (∃ t, exec .b64EncSalt s = .next t ∧ t.textb = b64Enc s.saltb ++ List.replicate 10 0x00 ∧
          t.sliceCnt = s.sliceCnt ∧ Succeeds Reg.inText s.status.sched s t) ∧
        (∃ t, exec .b64EncDigest s = .next t ∧ t.textb = b64Enc (s.digb.take 23) ++ [0x00] ∧
          t.sliceCnt = s.sliceCnt ∧ Succeeds Reg.inText s.status.sched s t)

/-- R246: the salt decoder, both ways it can end. -/
def Obligations.SaltDecoderChecksField : Prop :=
  (decodeWord 0x00000031).toOption = some .b64DecSalt ∧
    ∀ s : State,
      (fieldOk (s.textb.take 22) 4 = true →
          ∃ t, exec .b64DecSalt s = .next t ∧ some t.saltb = b64Dec (s.textb.take 22) 16 ∧ t.sliceCnt = s.sliceCnt ∧
            Succeeds Reg.inSalt .none s t) ∧
        (fieldOk (s.textb.take 22) 4 = false → ∃ t, exec .b64DecSalt s = .next t ∧ Fails .saltGrammar s t)

/-- R248: the digest decoder, both ways it can end. -/
def Obligations.DigestDecoderChecksField : Prop :=
  (decodeWord 0x00000033).toOption = some .b64DecDigest ∧
    ∀ s : State,
      (fieldOk (s.textb.take 31) 2 = true →
          ∃ t, exec .b64DecDigest s = .next t ∧ (b64Dec (s.textb.take 31) 23).map (· ++ [0x00]) = some t.digb ∧
            t.sliceCnt = s.sliceCnt ∧ Succeeds Reg.inDig s.status.sched s t) ∧
        (fieldOk (s.textb.take 31) 2 = false → ∃ t, exec .b64DecDigest s = .next t ∧ Fails .digestGrammar s t)

/-! ### The whole machine -/

/-- Reset has the invariant. Its clause idle_seq says the CUR and PHASE the model holds while idle (log 3). -/
def Obligations.ResetHasInvariant : Prop := State.reset.Inv

/-- Every transition from a state with the invariant keeps it: PWLEN in 0..72 (R38), one outcome (R29), ITER and SCHED in step
(R34, R40, R41), a legal sequencer (R51, R52). The clause idle_seq, CUR 0x00 and PHASE START while idle, is the model's choice
(log 3). -/
def Obligations.StepKeepsInvariant : Prop := ∀ s t : State, s.Inv → step s = .next t → t.Inv

/-- R300: from a state with the invariant no transition faults, and a host whose program is within the device contract is
never refused. -/
def Obligations.AdmittedRunsNeverStop : Prop :=
  ∀ s : State, s.Inv → admittedProgram s.program = true →
    ∃ t, step s = .next t ∧ admittedProgram t.program = true

/-- From R217, R279, R285: an engine step that ends its command leaves exactly one of DONE and ERR, and after an ERR no partial
result; one that does not end it leaves neither. The host then returns the error and no string after ERR, and its result
after DONE; a host in mode 1 or 2 (log 21) reports greater and greater fractions, reports that outcome, and nothing after it.
In mode 2 each command that ends with DONE is followed by the next one: EKS_CONTINUE until SCHED is COMPLETE, CHAIN64,
B64_ENC_DIGEST, SCRUB; one that ends with ERR by none. -/
def Obligations.ExactlyOneTerminalOutcome : Prop :=
  (∀ (i : Instr) (s t : State), exec i s = .next t → s.status.busy = true → s.status.done = false →
    s.status.err = false →
    (t.status.busy = true ∧ t.status.done = false ∧ t.status.err = false) ∨
      (t.status.busy = false ∧ t.status.done ≠ t.status.err ∧
        (t.status.err = true →
          t.errcode ≠ .none ∧ t.dig = s.dig ∧ t.textw = s.textw ∧ t.status.matched = s.status.matched))) ∧
    (∀ (f : HostFlow) (s : State), s.status.busy = false →
      (s.status.err = true → s.flowOutcome f = some (.failed (engineError s.errcode))) ∧
        (s.status.err = false → s.status.done = true →
          (∀ p, f = .hash p → s.flowOutcome f = some (.text (settingText p.tag p.cost p.saltField ++ s.textb.take 31))) ∧
            (f = .verify → s.flowOutcome f = some (.matched s.status.matched))) ∧
        (s.status.err = false → s.status.done = false → s.flowOutcome f = none)) ∧
    (∀ (u : Turn) (r r' : ProgressRun), progressTurn u r = .next r' →
      (r'.host.reports = r.host.reports ∨
          ∃ q : Fraction, r'.host.reports = r.host.reports ++ [q] ∧
            ∀ last, r.host.reports.getLast? = some last → last.num * q.den < q.num * last.den) ∧
        ∀ o, r.host.position = .ended o → r'.host = r.host) ∧
    (∀ r : ProgressRun, r.host.position = .poll → r.host.byIrq = false → r.machine.program = [] →
      r.machine.status.busy = false → r.machine.status.prog = false →
      ∃ r', progressRun (List.replicate 9 .host) r = .next r' ∧
        r'.host = { r.host with position := .ended (r.machine.flowOutcome r.host.flow) }) ∧
    ∀ (c : SlicedCommand) (r : ProgressRun), r.host.position = .await c → r.machine.program = [] →
      r.machine.status.busy = false →
      (r.machine.status.err = true →
          ∃ r', progressRun (List.replicate 2 .host) r = .next r' ∧
            r'.host = { r.host with position := .ended (r.machine.flowOutcome r.host.flow) }) ∧
        (r.machine.status.err = false → r.machine.status.done = true →
          ∃ r', progressRun
                (List.replicate (match c with | .eksStart | .chain64 => 2 | .eksContinue => 4 | .b64EncDigest => 10) .host) r =
              .next r' ∧ r'.machine.status.busy = true ∧ r'.host.flow = r.host.flow ∧
            (c = .eksStart → r'.machine.cur = 0x14 ∧ r'.host.position = .await .eksContinue) ∧
            (c = .eksContinue → r.machine.status.sched ≠ .complete →
              r'.machine.cur = 0x14 ∧ r'.host.position = .await .eksContinue) ∧
            (c = .eksContinue → r.machine.status.sched = .complete →
              r'.machine.cur = 0x20 ∧ r'.host.position = .await .chain64) ∧
            (c = .chain64 → r'.machine.cur = 0x32 ∧ r'.host.position = .await .b64EncDigest) ∧
            (c = .b64EncDigest → ∀ p, r.host.flow = .hash p →
              r'.machine.cur = 0x03 ∧ r'.host.position = .awaitScrub (r.machine.flowOutcome r.host.flow)))

/-- Which registers no command writes, and which only some do (R22, R31, R35, R37 to R39, R42, R43, R46). -/
def Obligations.CommandsKeepHostRegisters : Prop :=
  ∀ (i : Instr) (s t : State), exec i s = .next t →
    t.cost = s.cost ∧ t.slice = s.slice ∧ t.irqEn = s.irqEn ∧ t.status.ovr = s.status.ovr ∧ HostKept s t ∧
      (i ≠ .scrub → t.pww = s.pww ∧ t.pwlen = s.pwlen ∧ t.refw = s.refw) ∧
      (i ≠ .scrub → i ≠ .b64DecSalt → t.saltw = s.saltw) ∧
      (i ≠ .scrub → i ≠ .encrypt → t.blkL = s.blkL ∧ t.blkR = s.blkR) ∧
      (i ≠ .verify → t.status.matched = s.status.matched)

/-- R40, R41: what a transition can do to ITER and ITER_TOTAL. -/
def Obligations.IterationCountersMoveAsStated : Prop :=
  ∀ s t : State, step s = .next t →
    (t.iter = s.iter ∧ t.iterTotal = s.iterTotal) ∨ (t.iter = s.iter + 1 ∧ t.iterTotal = s.iterTotal) ∨
      (t.iter = 0 ∧ (t.iterTotal = 0 ∨ t.iterTotal.toNat = 2 ^ s.cost.toNat))

/-- R93: a transition of one instance is its step and leaves every other instance as it was. The list of instances is the model's (log 9). -/
def Obligations.InstancesShareNoState : Prop :=
  ∀ (k : Nat) (pl pl' : List State), platformStep k pl = .next pl' →
    pl'.length = pl.length ∧ (∀ j, j ≠ k → pl'[j]? = pl[j]?) ∧
      ∀ s, pl[k]? = some s → ∃ t, step s = .next t ∧ pl'[k]? = some t

/-! ### Host framing -/

/-- R276: formatting what Parse returned restores the string, whatever further tags are accepted. -/
def Obligations.ParsedHashReformats : Prop :=
  ∀ (t : List Byte) (p : ParsedHash), parseHash t = .ok p → p.digestField ≠ none → reformat p = some t

/-- From R282, R283, G7: a generated salt parses as the setting string with that cost and the generated tag. A numeric cost is
truncated, an absent one is the default; a cost outside [4, 31] and what is no number are refused. The tag is whatever
accepted one the platform generates, the default cost whatever it has (log 10). -/
def Obligations.GeneratedSaltParses : Prop :=
  (∀ (c : Int) (random : List Byte), random.length = 16 →
    (4 ≤ c → c ≤ 31 →
        ∃ t, generateSalt (.integer c) random = .ok t ∧ t.length = 29 ∧
          parseHash t =
            .ok { tag := Config.genPrefix, cost := c.toNat, saltField := b64Enc random, digestField := none }) ∧
      (c < 4 ∨ 31 < c → generateSalt (.integer c) random = .error .costDomain)) ∧
    ∀ random : List Byte,
      (∀ q : Rat, 4 ≤ q → q < 32 → generateSalt (.numeric q) random = generateSalt (.integer q.floor) random) ∧
        (∀ q : Rat, q < 4 ∨ 32 ≤ q → generateSalt (.numeric q) random = .error .costDomain) ∧
        generateSalt .notNumeric random = .error .costDomain ∧
        (∃ c : Nat, 4 ≤ c ∧ c ≤ 31 ∧ Config.defaultCost = c ∧
          generateSalt .absent random = generateSalt (.integer c) random)

/-- R281, R184: after the host's password writes to an idle device PWLEN is min(n, 72) and the key is the password's bytes and
the terminator, cut to 72 bytes, so bytes past 72 have no effect. How a count of 2^32 or more is written is the model's
choice (log 20). -/
def Obligations.PasswordWritesGiveTruncatedKey : Prop :=
  ∀ (s : State) (pw : List Byte), s.status.busy = false → s.program = passwordWrites pw →
    ∃ t, hostRun s.program.length s = .next t ∧ t.keyBytes = (pw ++ [0x00]).take 72 ∧
      t.pwlen.toNat = min pw.length 72 ∧ t.program = [] ∧
      t.saltw = s.saltw ∧ t.cost = s.cost
end

