-- ==== Sys2Proof/Laws/Bytes.lean ====
section
/-! SUPPORT. Bytes and words: the packing of 10_state.md R33 is a bijection between n words and 4n bytes. -/

namespace Sys2Proof.Machine

theorem append_toNat_add {n m : Nat} (x : BitVec n) (y : BitVec m) : (x ++ y).toNat = x.toNat * 2 ^ m + y.toNat := by
  rw [BitVec.toNat_append, ← Nat.shiftLeft_add_eq_or_of_lt y.isLt, Nat.shiftLeft_eq]

theorem be32_toNat (b0 b1 b2 b3 : Byte) :
    (be32 b0 b1 b2 b3).toNat = b0.toNat * 2 ^ 24 + b1.toNat * 2 ^ 16 + b2.toNat * 2 ^ 8 + b3.toNat := by
  unfold be32
  simp only [append_toNat_add]
  omega

theorem extract_toNat {n : Nat} (x : BitVec n) (i k : Nat) : (x.extractLsb' i k).toNat = x.toNat / 2 ^ i % 2 ^ k := by
  rw [BitVec.extractLsb'_toNat, Nat.shiftRight_eq_div_pow]

/-- The four bytes of a word made of four bytes are those bytes. -/
@[simp] theorem wordBytes_be32 (b0 b1 b2 b3 : Byte) : wordBytes (be32 b0 b1 b2 b3) = [b0, b1, b2, b3] := by
  have h0 := b0.isLt
  have h1 := b1.isLt
  have h2 := b2.isLt
  have h3 := b3.isLt
  simp only [wordBytes, List.cons.injEq, and_true]
  refine ⟨?_, ?_, ?_, ?_⟩ <;> apply BitVec.eq_of_toNat_eq <;> rw [extract_toNat, be32_toNat] <;> omega

/-- A word is made of its four bytes. -/
theorem be32_bytes (w : Word) :
    be32 (w.extractLsb' 24 8) (w.extractLsb' 16 8) (w.extractLsb' 8 8) (w.extractLsb' 0 8) = w := by
  apply BitVec.eq_of_toNat_eq
  have := w.isLt
  rw [be32_toNat]
  simp only [extract_toNat]
  omega

/-- A word whose upper three bytes are 0 is its lowest byte. -/
theorem word_of_low_byte {w : Word} (h : w.extractLsb' 8 24 = 0) : w = (w.extractLsb' 0 8).setWidth 32 := by
  have h' := congrArg BitVec.toNat h
  rw [extract_toNat] at h'
  have := w.isLt
  apply BitVec.eq_of_toNat_eq
  rw [BitVec.toNat_setWidth, extract_toNat]
  simp at h'
  omega

@[simp] theorem bytesOfWords_nil : bytesOfWords [] = [] := rfl

@[simp] theorem bytesOfWords_cons (w : Word) (ws : List Word) :
    bytesOfWords (w :: ws) =
      w.extractLsb' 24 8 :: w.extractLsb' 16 8 :: w.extractLsb' 8 8 :: w.extractLsb' 0 8 :: bytesOfWords ws := rfl

@[simp] theorem length_bytesOfWords (ws : List Word) : (bytesOfWords ws).length = 4 * ws.length := by
  induction ws with
  | nil => rfl
  | cons w ws ih => simp [ih]; omega

/-- Byte k of a buffer is the byte of word k / 4 that R33 names. -/
theorem getD_bytesOfWords (ws : List Word) (k : Nat) :
    (bytesOfWords ws).getD k 0 = (ws.getD (k / 4) 0).extractLsb' (24 - 8 * (k % 4)) 8 := by
  induction ws generalizing k with
  | nil => simp
  | cons w ws ih =>
    match k with
    | 0 => rfl
    | 1 => rfl
    | 2 => rfl
    | 3 => rfl
    | k + 4 => simpa [Nat.add_div_right] using ih k

/-- Packing 4n bytes into n words and reading the bytes back gives the bytes. -/
theorem bytesOfWords_wordsOfBytes {n : Nat} {bs : List Byte} (h : bs.length = 4 * n) :
    bytesOfWords (wordsOfBytes n bs).toList = bs := by
  apply List.ext_getElem
  · simp [h]
  · intro k h1 h2
    have e := getD_bytesOfWords (wordsOfBytes n bs).toList k
    rw [List.getD_eq_getElem _ _ h1] at e
    rw [e]
    have hk : k / 4 < n := by omega
    have hw : (wordsOfBytes n bs).toList.getD (k / 4) 0 =
        be32 (bs.getD (4 * (k / 4)) 0) (bs.getD (4 * (k / 4) + 1) 0) (bs.getD (4 * (k / 4) + 2) 0)
          (bs.getD (4 * (k / 4) + 3) 0) := by
      simp [wordsOfBytes, List.getD, hk]
    rw [hw]
    have hb := wordBytes_be32 (bs.getD (4 * (k / 4)) 0) (bs.getD (4 * (k / 4) + 1) 0) (bs.getD (4 * (k / 4) + 2) 0)
      (bs.getD (4 * (k / 4) + 3) 0)
    simp only [wordBytes, List.cons.injEq, and_true] at hb
    obtain ⟨e0, e1, e2, e3⟩ := hb
    rw [← List.getD_eq_getElem _ 0 h2]
    have hm : k % 4 < 4 := Nat.mod_lt _ (by decide)
    have hd : k = 4 * (k / 4) + k % 4 := by omega
    generalize k % 4 = m at *
    generalize k / 4 = q at *
    subst hd
    match m, hm with
    | 0, _ => simpa using e0
    | 1, _ => simpa using e1
    | 2, _ => simpa using e2
    | 3, _ => simpa using e3

/-- Reading the bytes of n words and packing them gives the words. -/
theorem wordsOfBytes_bytesOfWords {n : Nat} (ws : Vector Word n) : wordsOfBytes n (bytesOfWords ws.toList) = ws := by
  ext i hi
  simp only [wordsOfBytes, Vector.getElem_ofFn, getD_bytesOfWords]
  have h : ∀ j, j < 4 → (4 * i + j) / 4 = i := by omega
  have h0 : 4 * i / 4 = i := by omega
  have m0 : 4 * i % 4 = 0 := by omega
  have m1 : (4 * i + 1) % 4 = 1 := by omega
  have m2 : (4 * i + 2) % 4 = 2 := by omega
  have m3 : (4 * i + 3) % 4 = 3 := by omega
  simp [h0, m0, m1, m2, m3, h, List.getD, hi, be32_bytes]

/-- Two buffers with the same bytes are the same words. -/
theorem words_eq_of_bytes_eq {n : Nat} {a b : Vector Word n} (h : bytesOfWords a.toList = bytesOfWords b.toList) :
    a = b := by
  rw [← wordsOfBytes_bytesOfWords a, h, wordsOfBytes_bytesOfWords]

/-- Masking the last byte of six words leaves their first 23 bytes and a 0x00 (43_hashing.md R213). -/
theorem bytes_maskLast (ws : Vector Word 6) :
    bytesOfWords (ws.set 5 (ws[5] &&& 0xFFFFFF00)).toList = (bytesOfWords ws.toList).take 23 ++ [0x00] := by
  obtain ⟨⟨l⟩, hl⟩ := ws
  match l, hl with
  | [a, b, c, d, e, f], _ =>
    have h : ∀ k, 8 ≤ k → k ≤ 24 → (f &&& 0xFFFFFF00).extractLsb' k 8 = f.extractLsb' k 8 := by
      intro k h1 h2
      apply BitVec.eq_of_getLsbD_eq
      intro i hi
      have hm : (0xFFFFFF00 : Word).getLsbD (k + i) = true := by
        have : k + i < 32 := by omega
        have : 8 ≤ k + i := by omega
        generalize k + i = j at *
        interval_cases j <;> rfl
      simp only [BitVec.getLsbD_extractLsb', BitVec.getLsbD_and, hm, Bool.and_true]
    have h0 : (f &&& 0xFFFFFF00).extractLsb' 0 8 = (0 : Byte) := by
      apply BitVec.eq_of_getLsbD_eq
      intro i hi
      have hm : (0xFFFFFF00 : Word).getLsbD (0 + i) = false := by interval_cases i <;> rfl
      simp only [BitVec.getLsbD_extractLsb', BitVec.getLsbD_and, hm, Bool.and_false]
      simp
    have h1 := h 24 (by decide) (by decide)
    have h2 := h 16 (by decide) (by decide)
    have h3 := h 8 (by decide) (by decide)
    simp [bytesOfWords, wordBytes] at h0 h1 h2 h3 ⊢
    exact ⟨h1, h2, h3, h0⟩

end Sys2Proof.Machine
end

