-- ==== Sys2Proof/Laws/Base64.lean ====
section
/-! SUPPORT. Digits of a number in a base, and the lengths of encoded and decoded fields. -/

namespace Sys2Proof.Machine

@[simp] theorem length_toDigits (base n v : Nat) : (toDigits base n v).length = n := by simp [toDigits]

theorem toDigits_zero (base v : Nat) : toDigits base 0 v = [] := rfl

theorem toDigits_succ (base n v : Nat) : toDigits base (n + 1) v = toDigits base n (v / base) ++ [v % base] := by
  simp only [toDigits, List.range_succ, List.map_append, List.map_cons, List.map_nil]
  congr 1
  · apply List.map_congr_left
    intro k hk
    have hk := List.mem_range.1 hk
    rw [Nat.div_div_eq_div_mul, ← Nat.pow_succ', show n + 1 - 1 - k = n - 1 - k + 1 by omega]
  · simp

theorem ofDigits_append (base : Nat) (ds : List Nat) (d : Nat) :
    ofDigits base (ds ++ [d]) = ofDigits base ds * base + d := by
  simp [ofDigits, List.foldl_append]

theorem toDigits_lt {base n v d : Nat} (hb : 0 < base) (h : d ∈ toDigits base n v) : d < base := by
  simp only [toDigits, List.mem_map] at h
  obtain ⟨k, -, rfl⟩ := h
  exact Nat.mod_lt _ hb

/-- The digits of a number that fits are digits of it. -/
theorem ofDigits_toDigits {base n v : Nat} (h : v < base ^ n) : ofDigits base (toDigits base n v) = v := by
  induction n generalizing v with
  | zero => simp at h; subst h; rfl
  | succ n ih =>
    rw [toDigits_succ, ofDigits_append, ih (Nat.div_lt_of_lt_mul (by rwa [Nat.pow_succ'] at h))]
    exact Nat.div_add_mod' v base

theorem ofDigits_lt {base : Nat} (ds : List Nat) (h : ∀ d ∈ ds, d < base) : ofDigits base ds < base ^ ds.length := by
  induction ds using List.reverseRecOn with
  | nil => simp [ofDigits]
  | append_singleton ds d ih =>
    rw [ofDigits_append, List.length_append, List.length_singleton, Nat.pow_succ]
    have h1 := ih fun x hx => h x (List.mem_append_left _ hx)
    have h2 := h d (by simp)
    calc ofDigits base ds * base + d < ofDigits base ds * base + base := by omega
      _ = (ofDigits base ds + 1) * base := by rw [Nat.add_mul, Nat.one_mul]
      _ ≤ base ^ ds.length * base := Nat.mul_le_mul_right _ h1

/-- A number made of digits has those digits. -/
theorem toDigits_ofDigits {base : Nat} (ds : List Nat) (h : ∀ d ∈ ds, d < base) :
    toDigits base ds.length (ofDigits base ds) = ds := by
  induction ds using List.reverseRecOn with
  | nil => rfl
  | append_singleton ds d ih =>
    have h2 := h d (by simp)
    rw [List.length_append, List.length_singleton, toDigits_succ, ofDigits_append, Nat.mul_add_mod_self_right, Nat.mod_eq_of_lt h2,
      Nat.mul_comm, Nat.mul_add_div (by omega), Nat.div_eq_of_lt h2, Nat.add_zero,
      ih fun x hx => h x (List.mem_append_left _ hx)]

theorem getLastD_toDigits (base n v : Nat) : (toDigits base (n + 1) v).getLastD 0 = v % base := by
  rw [toDigits_succ]; simp

/-- The length of an encoded field (R241). -/
@[simp] theorem length_b64Enc (b : List Byte) : (b64Enc b).length = (8 * b.length + 5) / 6 := by simp [b64Enc]

/-- The length of a decoded field (R242). -/
@[simp] theorem length_decodeIndices (n : Nat) (vs : List Nat) : (decodeIndices n vs).length = n := by
  simp [decodeIndices]

theorem length_indicesOf {t : List Byte} {vs : List Nat} (h : indicesOf t = some vs) : vs.length = t.length := by
  induction t generalizing vs with
  | nil => cases h; rfl
  | cons c cs ih =>
    simp only [indicesOf] at h
    split at h
    · rename_i v ws h1 h2; cases h; simp [ih h2]
    · cases h

/-- A field that passes the check decodes to the bytes of its indices (R242, R243). -/
theorem fieldIndices_some {t : List Byte} {pad : Nat} {vs : List Nat} (h : fieldIndices t pad = some vs) :
    indicesOf t = some vs ∧ vs.getLastD 0 % 2 ^ pad = 0 := by
  simp only [fieldIndices] at h
  split at h
  · rename_i ws hw
    split at h
    · rename_i hp; cases h; exact ⟨hw, hp⟩
    · cases h
  · cases h

end Sys2Proof.Machine
end

