-- ==== Sys2Proof/Laws/State.lean ====
section
/-! SUPPORT. What each shared update does to each field, so that no proof unfolds a record update. -/

namespace Sys2Proof.Machine

variable (s : State)

/-! ### `complete_ok` (R15) -/

@[simp] theorem completeOk_cipher : (completeOk s).cipher = s.cipher := rfl
@[simp] theorem completeOk_blkL : (completeOk s).blkL = s.blkL := rfl
@[simp] theorem completeOk_blkR : (completeOk s).blkR = s.blkR := rfl
@[simp] theorem completeOk_pww : (completeOk s).pww = s.pww := rfl
@[simp] theorem completeOk_pwlen : (completeOk s).pwlen = s.pwlen := rfl
@[simp] theorem completeOk_saltw : (completeOk s).saltw = s.saltw := rfl
@[simp] theorem completeOk_cost : (completeOk s).cost = s.cost := rfl
@[simp] theorem completeOk_slice : (completeOk s).slice = s.slice := rfl
@[simp] theorem completeOk_dig : (completeOk s).dig = s.dig := rfl
@[simp] theorem completeOk_textw : (completeOk s).textw = s.textw := rfl
@[simp] theorem completeOk_refw : (completeOk s).refw = s.refw := rfl
@[simp] theorem completeOk_irqEn : (completeOk s).irqEn = s.irqEn := rfl
@[simp] theorem completeOk_errcode : (completeOk s).errcode = s.errcode := rfl
@[simp] theorem completeOk_iter : (completeOk s).iter = s.iter := rfl
@[simp] theorem completeOk_iterTotal : (completeOk s).iterTotal = s.iterTotal := rfl
@[simp] theorem completeOk_cur : (completeOk s).cur = 0 := rfl
@[simp] theorem completeOk_phase : (completeOk s).phase = .start := rfl
@[simp] theorem completeOk_sliceCnt : (completeOk s).sliceCnt = s.sliceCnt := rfl
@[simp] theorem completeOk_abortReq : (completeOk s).abortReq = false := rfl
@[simp] theorem completeOk_program : (completeOk s).program = s.program := rfl
@[simp] theorem completeOk_schedule : (completeOk s).schedule = s.schedule := rfl
@[simp] theorem completeOk_results : (completeOk s).results = s.results := rfl
@[simp] theorem completeOk_assertFailed : (completeOk s).assertFailed = s.assertFailed := rfl
@[simp] theorem completeOk_status_busy : (completeOk s).status.busy = false := rfl
@[simp] theorem completeOk_status_done : (completeOk s).status.done = true := rfl
@[simp] theorem completeOk_status_err : (completeOk s).status.err = s.status.err := rfl
@[simp] theorem completeOk_status_prog : (completeOk s).status.prog = s.status.prog := rfl
@[simp] theorem completeOk_status_matched : (completeOk s).status.matched = s.status.matched := rfl
@[simp] theorem completeOk_status_ovr : (completeOk s).status.ovr = s.status.ovr := rfl
@[simp] theorem completeOk_status_sched : (completeOk s).status.sched = s.status.sched := rfl

@[simp] theorem completeOk_pwb : (completeOk s).pwb = s.pwb := rfl
@[simp] theorem completeOk_saltb : (completeOk s).saltb = s.saltb := rfl
@[simp] theorem completeOk_digb : (completeOk s).digb = s.digb := rfl
@[simp] theorem completeOk_textb : (completeOk s).textb = s.textb := rfl
@[simp] theorem completeOk_refb : (completeOk s).refb = s.refb := rfl
@[simp] theorem completeOk_keyBytes : (completeOk s).keyBytes = s.keyBytes := rfl

/-! ### `raise Error` (R15) -/

@[simp] theorem raiseError_cipher (code : ErrCode) : (raiseError code s).cipher = s.cipher := rfl
@[simp] theorem raiseError_blkL (code : ErrCode) : (raiseError code s).blkL = s.blkL := rfl
@[simp] theorem raiseError_blkR (code : ErrCode) : (raiseError code s).blkR = s.blkR := rfl
@[simp] theorem raiseError_pww (code : ErrCode) : (raiseError code s).pww = s.pww := rfl
@[simp] theorem raiseError_pwlen (code : ErrCode) : (raiseError code s).pwlen = s.pwlen := rfl
@[simp] theorem raiseError_saltw (code : ErrCode) : (raiseError code s).saltw = s.saltw := rfl
@[simp] theorem raiseError_cost (code : ErrCode) : (raiseError code s).cost = s.cost := rfl
@[simp] theorem raiseError_slice (code : ErrCode) : (raiseError code s).slice = s.slice := rfl
@[simp] theorem raiseError_dig (code : ErrCode) : (raiseError code s).dig = s.dig := rfl
@[simp] theorem raiseError_textw (code : ErrCode) : (raiseError code s).textw = s.textw := rfl
@[simp] theorem raiseError_refw (code : ErrCode) : (raiseError code s).refw = s.refw := rfl
@[simp] theorem raiseError_irqEn (code : ErrCode) : (raiseError code s).irqEn = s.irqEn := rfl
@[simp] theorem raiseError_errcode (code : ErrCode) : (raiseError code s).errcode = code := rfl
@[simp] theorem raiseError_iter (code : ErrCode) : (raiseError code s).iter = s.iter := rfl
@[simp] theorem raiseError_iterTotal (code : ErrCode) : (raiseError code s).iterTotal = s.iterTotal := rfl
@[simp] theorem raiseError_cur (code : ErrCode) : (raiseError code s).cur = 0 := rfl
@[simp] theorem raiseError_phase (code : ErrCode) : (raiseError code s).phase = .start := rfl
@[simp] theorem raiseError_sliceCnt (code : ErrCode) : (raiseError code s).sliceCnt = s.sliceCnt := rfl
@[simp] theorem raiseError_abortReq (code : ErrCode) : (raiseError code s).abortReq = false := rfl
@[simp] theorem raiseError_program (code : ErrCode) : (raiseError code s).program = s.program := rfl
@[simp] theorem raiseError_schedule (code : ErrCode) : (raiseError code s).schedule = s.schedule := rfl
@[simp] theorem raiseError_results (code : ErrCode) : (raiseError code s).results = s.results := rfl
@[simp] theorem raiseError_assertFailed (code : ErrCode) : (raiseError code s).assertFailed = s.assertFailed := rfl
@[simp] theorem raiseError_status_busy (code : ErrCode) : (raiseError code s).status.busy = false := rfl
@[simp] theorem raiseError_status_done (code : ErrCode) : (raiseError code s).status.done = s.status.done := rfl
@[simp] theorem raiseError_status_err (code : ErrCode) : (raiseError code s).status.err = true := rfl
@[simp] theorem raiseError_status_prog (code : ErrCode) : (raiseError code s).status.prog = s.status.prog := rfl
@[simp] theorem raiseError_status_matched (code : ErrCode) :
    (raiseError code s).status.matched = s.status.matched := rfl
@[simp] theorem raiseError_status_ovr (code : ErrCode) : (raiseError code s).status.ovr = s.status.ovr := rfl
@[simp] theorem raiseError_status_sched (code : ErrCode) : (raiseError code s).status.sched = s.status.sched := rfl

@[simp] theorem raiseError_pwb (code : ErrCode) : (raiseError code s).pwb = s.pwb := rfl
@[simp] theorem raiseError_saltb (code : ErrCode) : (raiseError code s).saltb = s.saltb := rfl
@[simp] theorem raiseError_digb (code : ErrCode) : (raiseError code s).digb = s.digb := rfl
@[simp] theorem raiseError_textb (code : ErrCode) : (raiseError code s).textb = s.textb := rfl
@[simp] theorem raiseError_refb (code : ErrCode) : (raiseError code s).refb = s.refb := rfl
@[simp] theorem raiseError_keyBytes (code : ErrCode) : (raiseError code s).keyBytes = s.keyBytes := rfl

/-! ### the write of SCHED (R34) -/

@[simp] theorem setSched_cipher (v : Sched) : (setSched v s).cipher = s.cipher := rfl
@[simp] theorem setSched_blkL (v : Sched) : (setSched v s).blkL = s.blkL := rfl
@[simp] theorem setSched_blkR (v : Sched) : (setSched v s).blkR = s.blkR := rfl
@[simp] theorem setSched_pww (v : Sched) : (setSched v s).pww = s.pww := rfl
@[simp] theorem setSched_pwlen (v : Sched) : (setSched v s).pwlen = s.pwlen := rfl
@[simp] theorem setSched_saltw (v : Sched) : (setSched v s).saltw = s.saltw := rfl
@[simp] theorem setSched_cost (v : Sched) : (setSched v s).cost = s.cost := rfl
@[simp] theorem setSched_slice (v : Sched) : (setSched v s).slice = s.slice := rfl
@[simp] theorem setSched_dig (v : Sched) : (setSched v s).dig = s.dig := rfl
@[simp] theorem setSched_textw (v : Sched) : (setSched v s).textw = s.textw := rfl
@[simp] theorem setSched_refw (v : Sched) : (setSched v s).refw = s.refw := rfl
@[simp] theorem setSched_irqEn (v : Sched) : (setSched v s).irqEn = s.irqEn := rfl
@[simp] theorem setSched_errcode (v : Sched) : (setSched v s).errcode = s.errcode := rfl
@[simp] theorem setSched_iter (v : Sched) : (setSched v s).iter = s.iter := rfl
@[simp] theorem setSched_iterTotal (v : Sched) : (setSched v s).iterTotal = s.iterTotal := rfl
@[simp] theorem setSched_cur (v : Sched) : (setSched v s).cur = s.cur := rfl
@[simp] theorem setSched_phase (v : Sched) : (setSched v s).phase = s.phase := rfl
@[simp] theorem setSched_sliceCnt (v : Sched) : (setSched v s).sliceCnt = s.sliceCnt := rfl
@[simp] theorem setSched_abortReq (v : Sched) : (setSched v s).abortReq = s.abortReq := rfl
@[simp] theorem setSched_program (v : Sched) : (setSched v s).program = s.program := rfl
@[simp] theorem setSched_schedule (v : Sched) : (setSched v s).schedule = s.schedule := rfl
@[simp] theorem setSched_results (v : Sched) : (setSched v s).results = s.results := rfl
@[simp] theorem setSched_assertFailed (v : Sched) : (setSched v s).assertFailed = s.assertFailed := rfl
@[simp] theorem setSched_status_busy (v : Sched) : (setSched v s).status.busy = s.status.busy := rfl
@[simp] theorem setSched_status_done (v : Sched) : (setSched v s).status.done = s.status.done := rfl
@[simp] theorem setSched_status_err (v : Sched) : (setSched v s).status.err = s.status.err := rfl
@[simp] theorem setSched_status_prog (v : Sched) : (setSched v s).status.prog = s.status.prog := rfl
@[simp] theorem setSched_status_matched (v : Sched) : (setSched v s).status.matched = s.status.matched := rfl
@[simp] theorem setSched_status_ovr (v : Sched) : (setSched v s).status.ovr = s.status.ovr := rfl
@[simp] theorem setSched_status_sched (v : Sched) : (setSched v s).status.sched = v := rfl

@[simp] theorem setSched_pwb (v : Sched) : (setSched v s).pwb = s.pwb := rfl
@[simp] theorem setSched_saltb (v : Sched) : (setSched v s).saltb = s.saltb := rfl
@[simp] theorem setSched_digb (v : Sched) : (setSched v s).digb = s.digb := rfl
@[simp] theorem setSched_textb (v : Sched) : (setSched v s).textb = s.textb := rfl
@[simp] theorem setSched_refb (v : Sched) : (setSched v s).refb = s.refb := rfl
@[simp] theorem setSched_keyBytes (v : Sched) : (setSched v s).keyBytes = s.keyBytes := rfl

/-! ### the write of P and S -/

@[simp] theorem setCipher_cipher (cs : CipherState) : (setCipher cs s).cipher = cs := rfl
@[simp] theorem setCipher_blkL (cs : CipherState) : (setCipher cs s).blkL = s.blkL := rfl
@[simp] theorem setCipher_blkR (cs : CipherState) : (setCipher cs s).blkR = s.blkR := rfl
@[simp] theorem setCipher_pww (cs : CipherState) : (setCipher cs s).pww = s.pww := rfl
@[simp] theorem setCipher_pwlen (cs : CipherState) : (setCipher cs s).pwlen = s.pwlen := rfl
@[simp] theorem setCipher_saltw (cs : CipherState) : (setCipher cs s).saltw = s.saltw := rfl
@[simp] theorem setCipher_cost (cs : CipherState) : (setCipher cs s).cost = s.cost := rfl
@[simp] theorem setCipher_slice (cs : CipherState) : (setCipher cs s).slice = s.slice := rfl
@[simp] theorem setCipher_dig (cs : CipherState) : (setCipher cs s).dig = s.dig := rfl
@[simp] theorem setCipher_textw (cs : CipherState) : (setCipher cs s).textw = s.textw := rfl
@[simp] theorem setCipher_refw (cs : CipherState) : (setCipher cs s).refw = s.refw := rfl
@[simp] theorem setCipher_irqEn (cs : CipherState) : (setCipher cs s).irqEn = s.irqEn := rfl
@[simp] theorem setCipher_errcode (cs : CipherState) : (setCipher cs s).errcode = s.errcode := rfl
@[simp] theorem setCipher_iter (cs : CipherState) : (setCipher cs s).iter = s.iter := rfl
@[simp] theorem setCipher_iterTotal (cs : CipherState) : (setCipher cs s).iterTotal = s.iterTotal := rfl
@[simp] theorem setCipher_cur (cs : CipherState) : (setCipher cs s).cur = s.cur := rfl
@[simp] theorem setCipher_phase (cs : CipherState) : (setCipher cs s).phase = s.phase := rfl
@[simp] theorem setCipher_sliceCnt (cs : CipherState) : (setCipher cs s).sliceCnt = s.sliceCnt := rfl
@[simp] theorem setCipher_abortReq (cs : CipherState) : (setCipher cs s).abortReq = s.abortReq := rfl
@[simp] theorem setCipher_program (cs : CipherState) : (setCipher cs s).program = s.program := rfl
@[simp] theorem setCipher_schedule (cs : CipherState) : (setCipher cs s).schedule = s.schedule := rfl
@[simp] theorem setCipher_results (cs : CipherState) : (setCipher cs s).results = s.results := rfl
@[simp] theorem setCipher_assertFailed (cs : CipherState) : (setCipher cs s).assertFailed = s.assertFailed := rfl
@[simp] theorem setCipher_status_busy (cs : CipherState) : (setCipher cs s).status.busy = s.status.busy := rfl
@[simp] theorem setCipher_status_done (cs : CipherState) : (setCipher cs s).status.done = s.status.done := rfl
@[simp] theorem setCipher_status_err (cs : CipherState) : (setCipher cs s).status.err = s.status.err := rfl
@[simp] theorem setCipher_status_prog (cs : CipherState) : (setCipher cs s).status.prog = s.status.prog := rfl
@[simp] theorem setCipher_status_matched (cs : CipherState) :
    (setCipher cs s).status.matched = s.status.matched := rfl
@[simp] theorem setCipher_status_ovr (cs : CipherState) : (setCipher cs s).status.ovr = s.status.ovr := rfl
@[simp] theorem setCipher_status_sched (cs : CipherState) : (setCipher cs s).status.sched = s.status.sched := rfl

@[simp] theorem setCipher_pwb (cs : CipherState) : (setCipher cs s).pwb = s.pwb := rfl
@[simp] theorem setCipher_saltb (cs : CipherState) : (setCipher cs s).saltb = s.saltb := rfl
@[simp] theorem setCipher_digb (cs : CipherState) : (setCipher cs s).digb = s.digb := rfl
@[simp] theorem setCipher_textb (cs : CipherState) : (setCipher cs s).textb = s.textb := rfl
@[simp] theorem setCipher_refb (cs : CipherState) : (setCipher cs s).refb = s.refb := rfl
@[simp] theorem setCipher_keyBytes (cs : CipherState) : (setCipher cs s).keyBytes = s.keyBytes := rfl

/-! ### Iterate (R178) -/

@[simp] theorem iterate_cipher : (iterate s).cipher = iterateCipher s.keyBytes s.saltb s.cipher := rfl
@[simp] theorem iterate_blkL : (iterate s).blkL = s.blkL := rfl
@[simp] theorem iterate_blkR : (iterate s).blkR = s.blkR := rfl
@[simp] theorem iterate_pww : (iterate s).pww = s.pww := rfl
@[simp] theorem iterate_pwlen : (iterate s).pwlen = s.pwlen := rfl
@[simp] theorem iterate_saltw : (iterate s).saltw = s.saltw := rfl
@[simp] theorem iterate_cost : (iterate s).cost = s.cost := rfl
@[simp] theorem iterate_slice : (iterate s).slice = s.slice := rfl
@[simp] theorem iterate_dig : (iterate s).dig = s.dig := rfl
@[simp] theorem iterate_textw : (iterate s).textw = s.textw := rfl
@[simp] theorem iterate_refw : (iterate s).refw = s.refw := rfl
@[simp] theorem iterate_irqEn : (iterate s).irqEn = s.irqEn := rfl
@[simp] theorem iterate_errcode : (iterate s).errcode = s.errcode := rfl
@[simp] theorem iterate_iter : (iterate s).iter = s.iter + 1 := rfl
@[simp] theorem iterate_iterTotal : (iterate s).iterTotal = s.iterTotal := rfl
@[simp] theorem iterate_cur : (iterate s).cur = s.cur := rfl
@[simp] theorem iterate_phase : (iterate s).phase = s.phase := rfl
@[simp] theorem iterate_sliceCnt : (iterate s).sliceCnt = s.sliceCnt + 1 := rfl
@[simp] theorem iterate_abortReq : (iterate s).abortReq = s.abortReq := rfl
@[simp] theorem iterate_program : (iterate s).program = s.program := rfl
@[simp] theorem iterate_schedule : (iterate s).schedule = s.schedule := rfl
@[simp] theorem iterate_results : (iterate s).results = s.results := rfl
@[simp] theorem iterate_assertFailed : (iterate s).assertFailed = s.assertFailed := rfl
@[simp] theorem iterate_status_busy : (iterate s).status.busy = s.status.busy := rfl
@[simp] theorem iterate_status_done : (iterate s).status.done = s.status.done := rfl
@[simp] theorem iterate_status_err : (iterate s).status.err = s.status.err := rfl
@[simp] theorem iterate_status_prog : (iterate s).status.prog = s.status.prog := rfl
@[simp] theorem iterate_status_matched : (iterate s).status.matched = s.status.matched := rfl
@[simp] theorem iterate_status_ovr : (iterate s).status.ovr = s.status.ovr := rfl
@[simp] theorem iterate_status_sched : (iterate s).status.sched = s.status.sched := rfl

@[simp] theorem iterate_pwb : (iterate s).pwb = s.pwb := rfl
@[simp] theorem iterate_saltb : (iterate s).saltb = s.saltb := rfl
@[simp] theorem iterate_digb : (iterate s).digb = s.digb := rfl
@[simp] theorem iterate_textb : (iterate s).textb = s.textb := rfl
@[simp] theorem iterate_refb : (iterate s).refb = s.refb := rfl
@[simp] theorem iterate_keyBytes : (iterate s).keyBytes = s.keyBytes := rfl

/-! ### the marking of a slice boundary (R182) -/

@[simp] theorem markBoundary_cipher : (markBoundary s).cipher = s.cipher := rfl
@[simp] theorem markBoundary_blkL : (markBoundary s).blkL = s.blkL := rfl
@[simp] theorem markBoundary_blkR : (markBoundary s).blkR = s.blkR := rfl
@[simp] theorem markBoundary_pww : (markBoundary s).pww = s.pww := rfl
@[simp] theorem markBoundary_pwlen : (markBoundary s).pwlen = s.pwlen := rfl
@[simp] theorem markBoundary_saltw : (markBoundary s).saltw = s.saltw := rfl
@[simp] theorem markBoundary_cost : (markBoundary s).cost = s.cost := rfl
@[simp] theorem markBoundary_slice : (markBoundary s).slice = s.slice := rfl
@[simp] theorem markBoundary_dig : (markBoundary s).dig = s.dig := rfl
@[simp] theorem markBoundary_textw : (markBoundary s).textw = s.textw := rfl
@[simp] theorem markBoundary_refw : (markBoundary s).refw = s.refw := rfl
@[simp] theorem markBoundary_irqEn : (markBoundary s).irqEn = s.irqEn := rfl
@[simp] theorem markBoundary_errcode : (markBoundary s).errcode = s.errcode := rfl
@[simp] theorem markBoundary_iter : (markBoundary s).iter = s.iter := rfl
@[simp] theorem markBoundary_iterTotal : (markBoundary s).iterTotal = s.iterTotal := rfl
@[simp] theorem markBoundary_cur : (markBoundary s).cur = s.cur := rfl
@[simp] theorem markBoundary_phase : (markBoundary s).phase = s.phase := rfl
@[simp] theorem markBoundary_sliceCnt : (markBoundary s).sliceCnt = 0 := rfl
@[simp] theorem markBoundary_abortReq : (markBoundary s).abortReq = s.abortReq := rfl
@[simp] theorem markBoundary_program : (markBoundary s).program = s.program := rfl
@[simp] theorem markBoundary_schedule : (markBoundary s).schedule = s.schedule := rfl
@[simp] theorem markBoundary_results : (markBoundary s).results = s.results := rfl
@[simp] theorem markBoundary_assertFailed : (markBoundary s).assertFailed = s.assertFailed := rfl
@[simp] theorem markBoundary_status_busy : (markBoundary s).status.busy = s.status.busy := rfl
@[simp] theorem markBoundary_status_done : (markBoundary s).status.done = s.status.done := rfl
@[simp] theorem markBoundary_status_err : (markBoundary s).status.err = s.status.err := rfl
@[simp] theorem markBoundary_status_prog : (markBoundary s).status.prog = true := rfl
@[simp] theorem markBoundary_status_matched : (markBoundary s).status.matched = s.status.matched := rfl
@[simp] theorem markBoundary_status_ovr : (markBoundary s).status.ovr = s.status.ovr := rfl
@[simp] theorem markBoundary_status_sched :
    (markBoundary s).status.sched = if s.iter = s.iterTotal then .complete else s.status.sched := rfl

@[simp] theorem markBoundary_pwb : (markBoundary s).pwb = s.pwb := rfl
@[simp] theorem markBoundary_saltb : (markBoundary s).saltb = s.saltb := rfl
@[simp] theorem markBoundary_digb : (markBoundary s).digb = s.digb := rfl
@[simp] theorem markBoundary_textb : (markBoundary s).textb = s.textb := rfl
@[simp] theorem markBoundary_refb : (markBoundary s).refb = s.refb := rfl
@[simp] theorem markBoundary_keyBytes : (markBoundary s).keyBytes = s.keyBytes := rfl

/-! ### the using up of a turn (R90) -/

@[simp] theorem popTurn_cipher : (s.popTurn).cipher = s.cipher := rfl
@[simp] theorem popTurn_blkL : (s.popTurn).blkL = s.blkL := rfl
@[simp] theorem popTurn_blkR : (s.popTurn).blkR = s.blkR := rfl
@[simp] theorem popTurn_pww : (s.popTurn).pww = s.pww := rfl
@[simp] theorem popTurn_pwlen : (s.popTurn).pwlen = s.pwlen := rfl
@[simp] theorem popTurn_saltw : (s.popTurn).saltw = s.saltw := rfl
@[simp] theorem popTurn_cost : (s.popTurn).cost = s.cost := rfl
@[simp] theorem popTurn_slice : (s.popTurn).slice = s.slice := rfl
@[simp] theorem popTurn_dig : (s.popTurn).dig = s.dig := rfl
@[simp] theorem popTurn_textw : (s.popTurn).textw = s.textw := rfl
@[simp] theorem popTurn_refw : (s.popTurn).refw = s.refw := rfl
@[simp] theorem popTurn_irqEn : (s.popTurn).irqEn = s.irqEn := rfl
@[simp] theorem popTurn_errcode : (s.popTurn).errcode = s.errcode := rfl
@[simp] theorem popTurn_iter : (s.popTurn).iter = s.iter := rfl
@[simp] theorem popTurn_iterTotal : (s.popTurn).iterTotal = s.iterTotal := rfl
@[simp] theorem popTurn_cur : (s.popTurn).cur = s.cur := rfl
@[simp] theorem popTurn_phase : (s.popTurn).phase = s.phase := rfl
@[simp] theorem popTurn_sliceCnt : (s.popTurn).sliceCnt = s.sliceCnt := rfl
@[simp] theorem popTurn_abortReq : (s.popTurn).abortReq = s.abortReq := rfl
@[simp] theorem popTurn_program : (s.popTurn).program = s.program := rfl
@[simp] theorem popTurn_schedule : (s.popTurn).schedule = s.schedule.tail := rfl
@[simp] theorem popTurn_results : (s.popTurn).results = s.results := rfl
@[simp] theorem popTurn_assertFailed : (s.popTurn).assertFailed = s.assertFailed := rfl
@[simp] theorem popTurn_status_busy : (s.popTurn).status.busy = s.status.busy := rfl
@[simp] theorem popTurn_status_done : (s.popTurn).status.done = s.status.done := rfl
@[simp] theorem popTurn_status_err : (s.popTurn).status.err = s.status.err := rfl
@[simp] theorem popTurn_status_prog : (s.popTurn).status.prog = s.status.prog := rfl
@[simp] theorem popTurn_status_matched : (s.popTurn).status.matched = s.status.matched := rfl
@[simp] theorem popTurn_status_ovr : (s.popTurn).status.ovr = s.status.ovr := rfl
@[simp] theorem popTurn_status_sched : (s.popTurn).status.sched = s.status.sched := rfl

@[simp] theorem popTurn_pwb : (s.popTurn).pwb = s.pwb := rfl
@[simp] theorem popTurn_saltb : (s.popTurn).saltb = s.saltb := rfl
@[simp] theorem popTurn_digb : (s.popTurn).digb = s.digb := rfl
@[simp] theorem popTurn_textb : (s.popTurn).textb = s.textb := rfl
@[simp] theorem popTurn_refb : (s.popTurn).refb = s.refb := rfl
@[simp] theorem popTurn_keyBytes : (s.popTurn).keyBytes = s.keyBytes := rfl

end Sys2Proof.Machine
end

