-- ==== Sys2Proof/Laws/Exec.lean ====
section
/-! SUPPORT. What the shared parts of commands can do: a failure, the slice boundary, one iteration of EKS_CONTINUE and of
HASH and VERIFY. -/

namespace Sys2Proof.Machine

/-- The next iteration ends at a slice boundary (R182). -/
def State.endsSlice (s : State) : Prop := (s.slice ≠ 0 ∧ s.sliceCnt + 1 = s.slice) ∨ s.iter + 1 = s.iterTotal

theorem atBoundary_iterate (s : State) : atBoundary (iterate s) = true ↔ s.endsSlice := by
  simp [atBoundary, State.endsSlice]

/-- ITER_TOTAL for a legal cost fits its word (R180). -/
theorem total_toNat {c : Nat} (h : c ≤ 31) : (BitVec.ofNat 32 (2 ^ c)).toNat = 2 ^ c := by
  rw [BitVec.toNat_ofNat, Nat.mod_eq_of_lt (Nat.pow_lt_pow_right (by decide) (by omega))]

theorem costOk_iff (c : Word) : costOk c = true ↔ 4 ≤ c.toNat ∧ c.toNat ≤ 31 := by simp [costOk]

/-- A command that fails leaves the state it failed in. -/
theorem raiseError_fails (code : ErrCode) (s : State) : Fails code s (raiseError code s) := by
  refine ⟨rfl, rfl, rfl, fun r h1 h2 => ?_, rfl, ⟨rfl, rfl, rfl, rfl⟩⟩
  cases r <;> first | rfl | exact absurd rfl h1 | exact absurd rfl h2

/-- One iteration of EKS_CONTINUE, the three ways it can end. -/
theorem eksLoop_eq (s : State) :
    (¬s.endsSlice → eksLoop s = { iterate s with phase := .loop }) ∧
      (s.endsSlice → s.abortReq = true → eksLoop s = abortAtBoundary (markBoundary (iterate s))) ∧
      (s.endsSlice → s.abortReq = false → eksLoop s = completeOk (markBoundary (iterate s))) := by
  have h := atBoundary_iterate s
  refine ⟨fun hn => ?_, fun hb ha => ?_, fun hb ha => ?_⟩
  · have : atBoundary (iterate s) = false := by rw [← Bool.not_eq_true, h]; exact hn
    simp [eksLoop, this]
  · simp [eksLoop, h.2 hb, ha]
  · simp [eksLoop, h.2 hb, ha]

/-- One iteration of HASH and VERIFY, the three ways it can end. -/
theorem hashLoop_eq (s : State) :
    (¬s.endsSlice → hashLoop s = { iterate s with phase := .loop }) ∧
      (s.endsSlice → s.abortReq = true → hashLoop s = abortAtBoundary (markBoundary (iterate s))) ∧
      (s.endsSlice → s.abortReq = false → hashLoop s = hashAdvance (markBoundary (iterate s))) := by
  have h := atBoundary_iterate s
  refine ⟨fun hn => ?_, fun hb ha => ?_, fun hb ha => ?_⟩
  · have h1 : atBoundary (iterate s) = false := by rw [← Bool.not_eq_true, h]; exact hn
    have h2 : ¬s.iter + 1 = s.iterTotal := fun e => hn (.inr e)
    have h3 : hashAdvance (iterate s) = { iterate s with phase := .loop } := by
      simp only [hashAdvance, iterate_iter, iterate_iterTotal, h2, if_false]
    rw [← h3]
    simp only [hashLoop, h1, Bool.false_eq_true, if_false]
  · simp [hashLoop, h.2 hb, ha]
  · simp [hashLoop, h.2 hb, ha]

end Sys2Proof.Machine
end

