-- ==== Sys2Proof/Laws/PerInstr.lean ====
section
/-! SUPPORT. Statements about every command as syntax, one lemma per command. -/

namespace Sys2Proof.Laws.WordIsWellFormed

/-- The command is well formed, its word is a legal command word (30_encoding.md R111, R114), and its opcode is the low byte
the table finds it by. -/
def Statement (i : Instr) : Prop :=
  i.wf = true ∧ commandWordWf (encode i) = true ∧ decodeOpcode ((encode i).extractLsb' 0 8) = some i

theorem init : Statement .init := ⟨rfl, by decide, rfl⟩
theorem encrypt : Statement .encrypt := ⟨rfl, by decide, rfl⟩
theorem scrub : Statement .scrub := ⟨rfl, by decide, rfl⟩
theorem abort : Statement .abort := ⟨rfl, by decide, rfl⟩
theorem expandSalted : Statement .expandSalted := ⟨rfl, by decide, rfl⟩
theorem expandKey : Statement .expandKey := ⟨rfl, by decide, rfl⟩
theorem expandSalt : Statement .expandSalt := ⟨rfl, by decide, rfl⟩
theorem eksStart : Statement .eksStart := ⟨rfl, by decide, rfl⟩
theorem eksContinue : Statement .eksContinue := ⟨rfl, by decide, rfl⟩
theorem chain64 : Statement .chain64 := ⟨rfl, by decide, rfl⟩
theorem hash : Statement .hash := ⟨rfl, by decide, rfl⟩
theorem verify : Statement .verify := ⟨rfl, by decide, rfl⟩
theorem b64EncSalt : Statement .b64EncSalt := ⟨rfl, by decide, rfl⟩
theorem b64DecSalt : Statement .b64DecSalt := ⟨rfl, by decide, rfl⟩
theorem b64EncDigest : Statement .b64EncDigest := ⟨rfl, by decide, rfl⟩
theorem b64DecDigest : Statement .b64DecDigest := ⟨rfl, by decide, rfl⟩

end Sys2Proof.Laws.WordIsWellFormed
end

