-- ==== Sys2Proof/Laws/Window.lean ====
section
/-! SUPPORT. The register map, host accesses at a register's offset, and the words of STATUS and IRQ_EN. -/

namespace Sys2Proof.Machine

theorem blockIndex_of {base n off : Nat} (h : base ≤ off) (h2 : (off - base) / 4 < n) :
    blockIndex base n off = some ⟨(off - base) / 4, h2⟩ := by
  simp [blockIndex, h, h2]

theorem blockIndex_some {base n off : Nat} {k : Fin n} (h : blockIndex base n off = some k) :
    base ≤ off ∧ (off - base) / 4 = k.val := by
  unfold blockIndex at h
  split at h
  · rename_i h'; cases h; exact ⟨h'.1, rfl⟩
  · cases h

theorem controlRegAt_some {off : Nat} {r : Reg} (h : controlRegAt off = some r) : r.offset = off := by
  unfold controlRegAt at h
  split at h <;> cases h <;> rfl

theorem regAt_block {off : Nat} :
    (∀ i : Fin 18, off = 0x0040 + 4 * i.val → regAt off = some (.pww i)) ∧
      (∀ i : Fin 4, off = 0x0090 + 4 * i.val → regAt off = some (.saltw i)) ∧
      (∀ i : Fin 6, off = 0x00A0 + 4 * i.val → regAt off = some (.dig i)) ∧
      (∀ i : Fin 8, off = 0x00C0 + 4 * i.val → regAt off = some (.textw i)) ∧
      (∀ i : Fin 8, off = 0x00E0 + 4 * i.val → regAt off = some (.refw i)) ∧
      (∀ i : Fin 18, off = 0x0800 + 4 * i.val → regAt off = some (.p i)) ∧
      (∀ (b : Fin 4) (i : Fin 256), off = 0x1000 + 0x400 * b.val + 4 * i.val → regAt off = some (.s b i)) := by
  refine ⟨?_, ?_, ?_, ?_, ?_, ?_, ?_⟩
  iterate 6
    intro i h
    have hi := i.isLt
    unfold regAt
    repeat rw [if_neg (by omega)]
    rw [if_pos (by omega), blockIndex_of (by omega) (by omega)]
    simp [Fin.ext_iff]
    omega
  · intro b i h
    have hi := i.isLt
    have hb := b.isLt
    unfold regAt
    repeat rw [if_neg (by omega)]
    rw [blockIndex_of (by omega) (by omega)]
    simp [Fin.ext_iff]
    omega

/-- The register at a register's offset is that register. -/
theorem regAt_offset (r : Reg) : regAt r.offset = some r := by
  cases r with
  | pww i => exact regAt_block.1 i rfl
  | saltw i => exact regAt_block.2.1 i rfl
  | dig i => exact regAt_block.2.2.1 i rfl
  | textw i => exact regAt_block.2.2.2.1 i rfl
  | refw i => exact regAt_block.2.2.2.2.1 i rfl
  | p i => exact regAt_block.2.2.2.2.2.1 i rfl
  | s b i => exact regAt_block.2.2.2.2.2.2 b i rfl
  | _ => rfl

theorem hostWrite_idle {s : State} (h : s.status.busy = false) (r : Reg) (v : Word) :
    s.hostWrite r.offset v = writeIdle s r v := by
  simp [State.hostWrite, regAt_offset, h]

theorem hostWrite_busy {s : State} (h : s.status.busy = true) (r : Reg) (v : Word) :
    s.hostWrite r.offset v = writeBusy s r v := by
  simp [State.hostWrite, regAt_offset, h]

theorem hostRead_idle {s : State} (h : s.status.busy = false) (r : Reg) : s.hostRead r.offset = s.regValue r := by
  simp [State.hostRead, regAt_offset, h]

theorem hostRead_status (s : State) : s.hostRead 0x000C = s.status.toWord := by
  simp [State.hostRead, regAt, controlRegAt, State.regValue]

theorem hostRead_irqEn (s : State) : s.hostRead 0x0010 = s.irqEn.toWord := by
  simp [State.hostRead, regAt, controlRegAt, State.regValue]

/-- The two results of a write to CMD while idle (R113). -/
theorem issueIdle_cases (v : Word) (s : State) :
    (∃ i, decodeWord v = .ok i ∧
        issueIdle v s =
          { s with
            status := { s.status.clearOutcome with busy := true }, errcode := .none, cur := v.extractLsb' 0 8,
            phase := .start }) ∨
      ((∃ e, decodeWord v = .error e) ∧
        issueIdle v s = { s with status := { s.status.clearOutcome with err := true }, errcode := .illegalCmd }) := by
  cases h : decodeWord v with
  | ok i => exact .inl ⟨i, rfl, by simp only [issueIdle, h]⟩
  | error e => exact .inr ⟨⟨e, rfl⟩, by simp only [issueIdle, h]⟩

/-- The two results of a write to CMD while BUSY (R116). -/
theorem issueBusy_cases (v : Word) (s : State) :
    issueBusy v s = { s with abortReq := true } ∨ issueBusy v s = dropWrite s := by
  unfold issueBusy
  split
  · exact .inl rfl
  · exact .inr rfl

/-- A host write keeps the host's own state, whatever it writes. -/
theorem hostWrite_host (s : State) (off : Nat) (v : Word) :
    (s.hostWrite off v).program = s.program ∧ (s.hostWrite off v).schedule = s.schedule ∧
      (s.hostWrite off v).results = s.results ∧ (s.hostWrite off v).assertFailed = s.assertFailed := by
  unfold State.hostWrite
  split
  · exact ⟨rfl, rfl, rfl, rfl⟩
  · rename_i r _
    split
    · cases r <;> first
        | exact ⟨rfl, rfl, rfl, rfl⟩
        | (simp only [writeBusy]; rcases issueBusy_cases v s with h | h <;> rw [h] <;> exact ⟨rfl, rfl, rfl, rfl⟩)
    · cases r <;> first
        | exact ⟨rfl, rfl, rfl, rfl⟩
        | (simp only [writeIdle]
           rcases issueIdle_cases v s with ⟨i, -, h⟩ | ⟨-, h⟩ <;> rw [h] <;> exact ⟨rfl, rfl, rfl, rfl⟩)

/-- The bits of STATUS as read (R26). -/
theorem status_bits (st : Status) :
    st.toWord.getLsbD 0 = st.busy ∧ st.toWord.getLsbD 1 = st.done ∧ st.toWord.getLsbD 2 = st.err ∧
      st.toWord.getLsbD 3 = st.prog ∧ st.toWord.getLsbD 4 = st.matched ∧ st.toWord.getLsbD 5 = st.ovr ∧
      st.toWord.extractLsb' 6 2 = st.sched.bits ∧ st.toWord.extractLsb' 8 24 = 0 := by
  obtain ⟨a, b, c, d, e, f, g⟩ := st
  cases a <;> cases b <;> cases c <;> cases d <;> cases e <;> cases f <;> cases g <;> decide

/-- Clearing flags as a mask of the word read (R26). -/
theorem clearW1C_word (st : Status) (w : Word) : (st.clearW1C w).toWord = st.toWord &&& ~~~(w &&& 0x2E) := by
  apply BitVec.eq_of_getLsbD_eq
  intro i hi
  simp only [Status.clearW1C, Status.toWord, BitVec.getLsbD_append, BitVec.getLsbD_and]
  interval_cases i <;> simp

/-- The bits of IRQ_EN as read (R35). -/
theorem irqEn_bits (e : IrqEnable) :
    e.toWord.getLsbD 1 = e.done ∧ e.toWord.getLsbD 2 = e.err ∧ e.toWord.getLsbD 3 = e.prog ∧
      e.toWord.getLsbD 5 = e.ovr := by
  obtain ⟨a, b, c, d⟩ := e
  cases a <;> cases b <;> cases c <;> cases d <;> decide

/-- What IRQ_EN keeps of a written word (R35). -/
theorem irqEn_word (v : Word) : (IrqEnable.ofWord v).toWord = v &&& 0x2E := by
  apply BitVec.eq_of_getLsbD_eq
  intro i hi
  simp only [IrqEnable.ofWord, IrqEnable.toWord, BitVec.getLsbD_append, BitVec.getLsbD_and]
  interval_cases i <;> simp

end Sys2Proof.Machine
end

