-- ==== Sys2Proof/Laws/Progress.lean ====
section
/-! SUPPORT. What a flow returns from the registers it reads, and everything a transition can do to a host in mode 1 or 2 of R279. -/

namespace Sys2Proof.Machine

/-- ERRCODE as read names its code (R36, R301). -/
theorem errCodeOfWord_code (e : ErrCode) : errCodeOfWord (e.code.setWidth 32) = some e := by cases e <;> decide

/-- What a host reads in ERRCODE, while idle and while BUSY. -/
theorem hostRead_errcode (s : State) : s.hostRead 0x0014 = s.errcode.code.setWidth 32 := by
  simp [State.hostRead, regAt, controlRegAt, State.regValue]

/-- While idle the eight words of TEXTW are read as they are. -/
theorem hostRead_text {s : State} (h : s.status.busy = false) :
    ((List.finRange 8).map fun i => s.hostRead (Reg.textw i).offset) = s.textw.toList := by
  simp only [hostRead_idle h, State.regValue]
  apply List.ext_getElem <;> simp

/-- A flow's result by the flags of STATUS (R285). -/
theorem outcome_status (f : HostFlow) (st : Status) (e : Word) (text : List Word) :
    f.outcome st.toWord e text =
      if st.err then some (.failed ((errCodeOfWord e).bind engineError))
      else if st.done then some (f.success st.toWord text)
      else none := by
  obtain ⟨-, hd, he, -⟩ := status_bits st
  rw [HostFlow.outcome, he, hd]

/-- Everything a transition can do to such a host: nothing, or the observation of one value. -/
theorem progressTurn_host {u : Turn} {r r' : ProgressRun} (h : progressTurn u r = .next r') :
    r'.host = r.host ∨ ∃ v, r'.host = r.host.observe v := by
  unfold progressTurn at h
  split at h
  · cases h
    unfold ProgressRun.hostAccess
    split
    · exact .inl rfl
    · split
      · exact .inl rfl
      · exact .inr ⟨_, rfl⟩
  · split at h <;> cases h
    exact .inl rfl

/-- A host that has ended observes nothing more. -/
theorem observe_ended {h : ProgressHost} {o : Option HostOutcome} (ho : h.position = .ended o) (v : Word) :
    h.observe v = h := by
  rw [ProgressHost.observe, ho]

/-- At most one fraction is added, greater than the last one (R279). -/
theorem reported_cases (h : ProgressHost) (iter total : Word) :
    h.reported iter total = h.reports ∨
      ∃ q : Fraction, h.reported iter total = h.reports ++ [q] ∧
        ∀ last, h.reports.getLast? = some last → last.lt q = true := by
  simp only [ProgressHost.reported]
  split
  · next last hl =>
    split
    · next hlt => exact .inr ⟨_, rfl, fun l h' => by rw [hl] at h'; cases h'; exact hlt⟩
    · exact .inl rfl
  · next hl =>
    rw [List.getLast?_eq_none_iff] at hl
    rw [hl]
    exact .inr ⟨_, rfl, fun l h' => by simp at h'⟩

/-- An observation reports at most one fraction, greater than the last one (R279). -/
theorem observe_reports (h : ProgressHost) (v : Word) :
    (h.observe v).reports = h.reports ∨
      ∃ q : Fraction, (h.observe v).reports = h.reports ++ [q] ∧
        ∀ last, h.reports.getLast? = some last → last.lt q = true := by
  unfold ProgressHost.observe
  split <;> first | exact .inl rfl | exact reported_cases h _ _ | skip
  split <;> exact .inl rfl

/-- A host turn with its program performed is one access of the host. -/
theorem progressRun_host {r : ProgressRun} (h : r.machine.program = []) (ts : List Turn) :
    progressRun (.host :: ts) r = progressRun ts r.hostAccess := by
  simp [progressRun, progressTurn, h]

/-- A host that does not wait for `irq` makes its access and observes the value read. -/
theorem progressRun_access {h : ProgressHost} {s : State} {a : Access} (hs : s.program = []) (hw : h.waits s = false)
    (ha : h.access = some a) (ts : List Turn) :
    progressRun (.host :: ts) { host := h, machine := s } =
      progressRun ts { host := h.observe (s.hostRead a.off), machine := performAccess a s } := by
  rw [progressRun_host (by exact hs)]
  simp [ProgressRun.hostAccess, ha, hw]

/-- Only a host in mode 1 that polls waits for `irq`. -/
theorem waits_of_position {h : ProgressHost} (hp : h.position ≠ .poll) (s : State) : h.waits s = false := by
  simp [ProgressHost.waits, hp]

end Sys2Proof.Machine
end

