-- ==== Sys2Proof/Laws/Runs.lean ====
section
/-! SUPPORT. Runs of one agent, in two parts; one host write of a run; states with the same registers. -/

namespace Sys2Proof.Machine

/-- A run of the engine in two parts. -/
theorem engineRun_add (a b : Nat) {s t : State} (h : engineRun a s = .next t) :
    engineRun (a + b) s = engineRun b t := by
  induction a generalizing s with
  | zero => simp only [engineRun, Host.Outcome.next.injEq] at h; subst h; rw [Nat.zero_add]
  | succ a ih =>
    rw [show a + 1 + b = (a + b) + 1 by omega, engineRun]
    rw [engineRun] at h
    split at h
    · exact ih h
    · cases h
    · cases h

/-- A run of the host in two parts. -/
theorem hostRun_add (a b : Nat) {s t : State} (h : hostRun a s = .next t) : hostRun (a + b) s = hostRun b t := by
  induction a generalizing s with
  | zero => simp only [hostRun, Host.Outcome.next.injEq] at h; subst h; rw [Nat.zero_add]
  | succ a ih =>
    rw [show a + 1 + b = (a + b) + 1 by omega, hostRun]
    rw [hostRun] at h
    split at h
    · exact ih h
    · cases h
    · cases h

/-- The host's turn when its next statement is a defined write. -/
theorem hostTurn_write {s : State} {off : Nat} {v : Word} {rest : List Stmt}
    (h : s.program = .access (.write off 4 v) :: rest) (h4 : off % 4 = 0) (hm : off ≤ 0x1FFC) :
    hostTurn s = .next (({ s with program := rest } : State).hostWrite off v) := by
  have hr : accessRefusal (.write off 4 v) = none := by
    unfold accessRefusal
    rw [if_neg (by simp [Access.width]), if_neg (by simp [Access.off, h4]), if_neg (by simp only [Access.off]; omega)]
  unfold hostTurn
  rw [h]
  simp only [accessStep, hr, performAccess]

/-- The implicit operands depend on the registers alone (R112). -/
theorem operands_of_regs {s t : State}
    (h : ∀ r : Reg, r.inCipher = false → r ∉ [Reg.status, .errcode, .iter, .iterTotal] → t.regValue r = s.regValue r) :
    t.keyBytes = s.keyBytes ∧ t.saltb = s.saltb ∧ t.refb = s.refb ∧ t.slice = s.slice ∧ t.cost = s.cost := by
  have hp : t.pww = s.pww := by
    ext i hi : 1
    exact h (.pww ⟨i, hi⟩) rfl (by simp)
  have hs : t.saltw = s.saltw := by
    ext i hi : 1
    exact h (.saltw ⟨i, hi⟩) rfl (by simp)
  have hr : t.refw = s.refw := by
    ext i hi : 1
    exact h (.refw ⟨i, hi⟩) rfl (by simp)
  have hl : t.pwlen = s.pwlen := h .pwlen rfl (by simp)
  exact ⟨by simp [State.keyBytes, State.pwb, hp, hl], by simp [State.saltb, hs], by simp [State.refb, hr],
    h .slice rfl (by simp), h .cost rfl (by simp)⟩

end Sys2Proof.Machine
end

