-- ==== Sys2Proof/Laws/Step.lean ====
section
/-! SUPPORT. Everything one transition can do, and the decoding of the word a command is. -/

namespace Sys2Proof.Machine

/-- A word that decodes has its opcode in the table. -/
theorem decodeWord_opcode {w : Word} {i : Instr} (h : decodeWord w = .ok i) :
    decodeOpcode (w.extractLsb' 0 8) = some i := by
  unfold decodeWord at h
  split at h
  · cases h
  · split at h
    · rename_i j hj; cases h; exact hj
    · cases h

/-- The state of the host after a statement that wrote nothing: `p`, `r` and `a` are what is left of the program, the
results and the assertion flag. -/
def State.withHost (s : State) (p : List Stmt) (r : List Word) (a : Bool) : State :=
  { s with program := p, results := r, assertFailed := a }

/-- What the host's turn can do: nothing to the device, or one write. -/
theorem hostTurn_cases {s t : State} (h : hostTurn s = .next t) :
    (∃ p r a, t = s.withHost p r a ∧ (p = s.program ∨ p = s.program.tail)) ∨
      ∃ off v rest, s.program = .access (.write off 4 v) :: rest ∧
        accessRefusal (.write off 4 v) = none ∧ t = ({ s with program := rest } : State).hostWrite off v := by
  unfold hostTurn at h
  split at h
  · cases h; exact .inl ⟨_, _, _, rfl, .inl rfl⟩
  · rename_i a rest hp
    simp only [accessStep] at h
    split at h
    · cases h
    · rename_i hr
      cases h
      cases a with
      | read off w => exact .inl ⟨_, _, _, rfl, .inr (by rw [hp]; rfl)⟩
      | write off w v =>
        have hw : w = 4 := by
          by_contra hw
          simp [accessRefusal, Access.width, hw] at hr
        subst hw
        exact .inr ⟨off, v, rest, hp, hr, rfl⟩
  all_goals
    rename_i hp
    first
      | (simp only [checkStep] at h
         split at h
         · cases h
         · cases h; exact .inl ⟨_, _, _, rfl, .inr (by rw [hp]; rfl)⟩)
      | (split at h
         · cases h; exact .inl ⟨_, _, _, rfl, .inl rfl⟩
         · cases h; exact .inl ⟨_, _, _, rfl, .inr (by rw [hp]; rfl)⟩)

/-- Everything a transition can do (R90). -/
theorem step_cases {s t : State} (h : step s = .next t) :
    (s.turn = none ∧ t = s) ∨ (s.turn = some .rst ∧ t = resetTurn s.popTurn) ∨
      (s.turn = some .engine ∧ s.status.busy = false ∧ t = s.popTurn) ∨
      (s.turn = some .engine ∧ s.status.busy = true ∧
        ∃ i, decodeOpcode s.cur = some i ∧ exec i s.popTurn = .next t) ∨
      (s.turn = some .host ∧ hostTurn s.popTurn = .next t) := by
  unfold step at h
  split at h
  · rename_i k hk
    cases k with
    | host => exact .inr (.inr (.inr (.inr ⟨hk, h⟩)))
    | rst => simp only [takeTurn] at h; cases h; exact .inr (.inl ⟨hk, rfl⟩)
    | engine =>
      simp only [takeTurn, engineTurn] at h
      split at h
      · rename_i hb
        split at h
        · rename_i i hi
          exact .inr (.inr (.inr (.inl ⟨hk, hb, i, hi, h⟩)))
        · cases h
      · rename_i hb
        cases h
        exact .inr (.inr (.inl ⟨hk, by simpa [State.popTurn] using hb, rfl⟩))
  · rename_i hk
    cases h
    exact .inl ⟨hk, rfl⟩

end Sys2Proof.Machine
end

