-- ==== Sys2Proof/Laws/Stream.lean ====
section
/-! SUPPORT. Folds over the index ranges the cipher walks, and the cyclic word stream. -/

namespace Sys2Proof.Machine

/-- What holds before a walk over 0, 1, …, n-1 and is carried from each index to the next holds after it. -/
theorem finRange_foldl_inv {α : Type} (n : Nat) (f : α → Fin n → α) (a : α) (M : Nat → α → Prop) (h0 : M 0 a)
    (hs : ∀ (i : Fin n) (x : α), M i.val x → M (i.val + 1) (f x i)) : M n ((List.finRange n).foldl f a) := by
  have key : ∀ k, k ≤ n → M k (((List.finRange n).take k).foldl f a) := by
    intro k
    induction k with
    | zero => intro _; simpa using h0
    | succ k ih =>
      intro hk
      have hk' : k < n := hk
      rw [List.take_succ_eq_append_getElem (by simpa using hk'), List.foldl_append]
      simp only [List.foldl_cons, List.foldl_nil]
      have h := hs ((List.finRange n)[k]'(by simpa using hk')) _ (by simpa using ih (by omega))
      simpa using h
  have h := key n (le_refl n)
  rwa [List.take_of_length_le (by simp)] at h

/-- The position after a stream word (R171). -/
theorem streamWord_pos (d : List Byte) (j : Nat) : (streamWord d j).2 = (j + 4) % d.length := by
  simp only [streamWord, streamByte, Nat.mod_add_mod]

/-- A stream of zero bytes gives zero words. -/
theorem streamWord_zeros (n j : Nat) : (streamWord (List.replicate n 0x00) j).1 = 0 := by
  simp [streamWord, streamByte]

end Sys2Proof.Machine
end

