-- ==== Sys2Proof/Tests/Slice0.lean ====
section
/-! SUPPORT. The model's own tests: well-formedness, decoding of words written out from the opcode map, the constant tables,
worked vectors of 95_test_vectors.md (V, G and PRG entries, computed outside this model), and a witness for every
statement with hypotheses. Each test runs one step at most. -/

namespace Sys2Proof.Tests

set_option Elab.async false

open Sys2Proof Sys2Proof.Machine

/-! ### Helpers -/

/-- The step answered a next state that meets `p`. -/
def answers (r : Result) (p : State → Bool) : Bool :=
  match r with
  | .next t => p t
  | _ => false

/-- The command `w` placed on `s` and run by one step. -/
def run (w : Nat) (s : State) : Result := step (s.withFetchWord 32 w)

/-- ASCII codes. -/
def ascii (t : String) : List Byte := t.toList.map fun c => BitVec.ofNat 8 c.toNat

/-- The CipherState after INIT, the rest as reset leaves it. -/
def afterInit : State := { State.reset with cipher := romCipher }

/-- A password as the host writes it. -/
def withPassword (t : String) (s : State) : State :=
  { s with pww := wordsOfBytes 18 (ascii t), pwlen := BitVec.ofNat 32 t.length }

/-- A text buffer as the host writes it. -/
def withText (t : String) (s : State) : State := { s with textw := wordsOfBytes 8 (ascii t) }

/-- A reference buffer as the host writes it. -/
def withRef (t : String) (s : State) : State := { s with refw := wordsOfBytes 8 (ascii t) }

/-- A busy engine inside the command of opcode `c` at the given phase. -/
def inside (c : Byte) (ph : Phase) (s : State) : State :=
  { s with status := { s.status with busy := true }, cur := c, phase := ph }

/-- A schedule with 16 iterations, `n` of them done. -/
def scheduled (n : Word) (s : State) : State :=
  { s with status := { s.status with sched := .active }, iter := n, iterTotal := 16 }

/-- The salt of V14: 10 41 04 five times and 10. -/
def salt14 : Vector Word 4 := #v[0x10410410, 0x41041041, 0x04104104, 0x10410410]

/-! ### Well-formedness: what the checks refuse -/

theorem test_wf_reserved_bits_refused : commandWordWf 0x00000121 = false ∧ commandWordWf 0xFF000001 = false := by decide
theorem test_wf_unassigned_opcode_refused : commandWordWf 0x00000000 = false ∧ commandWordWf 0x00000004 = false := by
  decide
theorem test_wf_width_refused : accessRefusal (.read 0x0008 2) = some .wrongWidth := by decide
theorem test_wf_alignment_refused : accessRefusal (.write 0x0042 4 0) = some .misaligned := by decide
theorem test_wf_window_refused : accessRefusal (.read 0x2000 4) = some .outsideWindow := by decide
theorem test_wf_statements_refused :
    Stmt.admitted (.chk 0x000D 0) = false ∧ Stmt.admitted (.chkm 0x2000 1 0) = false ∧
      admittedProgram [.wait, .access (.read 0x0000 1)] = false := by
  decide
theorem test_instr_wf_all : ∀ i ∈ opcodeTable.map (·.2), Instr.wf i = true := by decide

/-! ### Decoding: the word of every command, OPC in bits 7..0 and RSV = 0 (30_encoding.md R111, R114) -/

theorem test_decode_init : decodeTableWord 32 0b00000000000000000000000000000001 = some .init := by decide
theorem test_decode_encrypt : decodeTableWord 32 0b00000000000000000000000000000010 = some .encrypt := by decide
theorem test_decode_scrub : decodeTableWord 32 0b00000000000000000000000000000011 = some .scrub := by decide
theorem test_decode_abort : decodeTableWord 32 0b00000000000000000000000000001110 = some .abort := by decide
theorem test_decode_expandSalted : decodeTableWord 32 0b00000000000000000000000000010000 = some .expandSalted := by decide
theorem test_decode_expandKey : decodeTableWord 32 0b00000000000000000000000000010001 = some .expandKey := by decide
theorem test_decode_expandSalt : decodeTableWord 32 0b00000000000000000000000000010010 = some .expandSalt := by decide
theorem test_decode_eksStart : decodeTableWord 32 0b00000000000000000000000000010011 = some .eksStart := by decide
theorem test_decode_eksContinue : decodeTableWord 32 0b00000000000000000000000000010100 = some .eksContinue := by decide
theorem test_decode_chain64 : decodeTableWord 32 0b00000000000000000000000000100000 = some .chain64 := by decide
theorem test_decode_hash : decodeTableWord 32 0b00000000000000000000000000100001 = some .hash := by decide
theorem test_decode_verify : decodeTableWord 32 0b00000000000000000000000000100010 = some .verify := by decide
theorem test_decode_b64EncSalt : decodeTableWord 32 0b00000000000000000000000000110000 = some .b64EncSalt := by decide
theorem test_decode_b64DecSalt : decodeTableWord 32 0b00000000000000000000000000110001 = some .b64DecSalt := by decide
theorem test_decode_b64EncDigest : decodeTableWord 32 0b00000000000000000000000000110010 = some .b64EncDigest := by decide
theorem test_decode_b64DecDigest : decodeTableWord 32 0b00000000000000000000000000110011 = some .b64DecDigest := by decide
theorem test_decode_illegal :
    decodeTableWord 32 0x00000004 = none ∧ decodeTableWord 32 0x00000121 = none ∧ decodeTableWord 32 0x80000001 = none := by
  decide
/-- The bytes of a command word, the most significant first (log 5), with what follows them. -/
theorem test_decode_bytes :
    decodeBytes [0x00, 0x00, 0x00, 0x21, 0xAA] = .ok (.hash, [0xAA]) ∧ decodeBytes [0x00, 0x00, 0x21] = .error .truncated := by
  decide
/-- The rows of the opcode map do not overlap. -/
theorem test_opcodes_distinct : (opcodeTable.map (·.1)).Pairwise (· ≠ ·) ∧ opcodeTable.map (·.1) = opcodes := by decide

/-! ### The constant tables (11_constant_tables.md R70, R76) -/

/-- XOR of all words, sum, first and last, as R76 lists them. -/
def tableCheck (t : List Word) : Word × Word × Word × Word :=
  (t.foldl (· ^^^ ·) 0, t.foldl (· + ·) 0, t.headD 0, t.getLastD 0)

/-- The words in the order of R70. -/
def romWords : List Word := romP.toList ++ romS.toList.flatMap Vector.toList

theorem test_rom_P : tableCheck romP.toList = (0xB73AD7EA, 0x8E4D14CC, 0x243F6A88, 0x8979FB1B) := by decide +kernel
theorem test_rom_S0 : tableCheck romS[0].toList = (0x4EB4DB7F, 0x4B745115, 0xD1310BA6, 0x6E85076A) := by decide +kernel
theorem test_rom_S1 : tableCheck romS[1].toList = (0xC727E122, 0x72FF37B2, 0x4B7A70E9, 0xDB83ADF7) := by decide +kernel
theorem test_rom_S2 : tableCheck romS[2].toList = (0x462A5D01, 0x2AC02B91, 0xE93D5A68, 0x406000E0) := by decide +kernel
theorem test_rom_S3 : tableCheck romS[3].toList = (0x1779E2BC, 0xF43E3A88, 0x3A39CE37, 0x3AC372E6) := by decide +kernel
theorem test_rom_all : tableCheck romWords = (0x6FFA520A, 0x6BBF03AC, 0x243F6A88, 0x3AC372E6) := by decide +kernel

/-- The series of the arc tangent of 1/x, its positive and its negative terms summed apart; every sum is compared before it
is passed on, so that the kernel keeps numerals. -/
def arctanTerms (x2 : Nat) : Nat → Nat → Nat → Nat → Nat → Nat
  | 0, _, _, pos, neg => pos - neg
  | n + 1, k, t, pos, neg =>
    if t = 0 then pos - neg
    else if k % 4 = 1 then
      if pos + t / k = 0 then 0 else arctanTerms x2 n (k + 2) (t / x2) (pos + t / k) neg
    else if neg + t / k = 0 then 0
    else arctanTerms x2 n (k + 2) (t / x2) pos (neg + t / k)

/-- The fraction of π with 33408 bits, by Machin's formula 16 arctan(1/5) - 4 arctan(1/239). -/
def piFraction : Nat :=
  16 * arctanTerms 25 8000 1 (2 ^ 33408 / 5) 0 0 - 4 * arctanTerms 57121 8000 1 (2 ^ 33408 / 239) 0 0 - 3 * 2 ^ 33408

/-- R70: the 1042 table words are the first 33344 bits of the fraction of π. Computed from π, not from the tables of the
spec. -/
theorem test_rom_is_pi :
    piFraction / 2 ^ 64 = romWords.foldl (fun a w => if a = 2 ^ 40000 then 0 else a * 2 ^ 32 + w.toNat) 0 := by
  decide +kernel

/-! ### Cipher unit (V1 to V11a) -/

theorem test_F : mixF romCipher 0x00000000 = 0x2FCFF51E ∧ mixF romCipher 0xFFFFFFFF = 0x452C2867 ∧
    mixF romCipher 0x01020304 = 0x3CEDFF8C := by
  decide +kernel
theorem test_encrypt_zero_block :
    answers (run 0x02 afterInit) (fun t => t.blkL == 0x706D9FCC && t.blkR == 0x1792D23A) = true := by
  decide +kernel
theorem test_encrypt_block :
    answers (run 0x02 { afterInit with blkL := 0x01234567, blkR := 0x89ABCDEF })
      (fun t => t.blkL == 0x738E078D && t.blkR == 0x4C8703A6 && t.status.done) = true := by
  decide +kernel
theorem test_encrypt_zero_state :
    encryptBlock CipherState.zero 0x11111111 0x22222222 = (0x22222222, 0x11111111) := by
  decide +kernel
theorem test_init :
    answers (run 0x01 State.reset) (fun t => t.cipher.P[17] == 0x8979FB1B && t.cipher.S[3][255] == 0x3AC372E6 &&
      t.cipher.S[0][0] == 0xD1310BA6 && t.status.done) = true := by
  decide +kernel
theorem test_scrub :
    answers (run 0x03 { scheduled 3 (withPassword "pass" afterInit) with cost := 7, slice := 9 })
      (fun t => t.pww[0] == 0 && t.cipher.P[0] == 0 && t.pwlen == 0 && t.iter == 0 && t.cost == 7 && t.slice == 9 &&
        t.status.sched == .none) = true := by
  decide +kernel

/-! ### Key-schedule unit (V12 to V18c) -/

/-- `k` stream words from the start of `d`. -/
def streamWords (d : List Byte) : Nat → Nat → List Word
  | 0, _ => []
  | k + 1, j => (streamWord d j).1 :: streamWords d k (streamWord d j).2

theorem test_stream_wraps_inside_words :
    streamWords [0x61, 0x62, 0x63, 0x64, 0x00] 5 0 = [0x61626364, 0x00616263, 0x64006162, 0x63640061, 0x62636400] := by
  decide +kernel
theorem test_stream_short :
    streamWords [0x55, 0x2A, 0x55, 0x00] 3 0 = [0x552A5500, 0x552A5500, 0x552A5500] ∧ streamWords [0x00] 2 0 = [0, 0] := by
  decide +kernel
theorem test_key_terminated :
    (withPassword "password" State.reset).keyBytes = [0x70, 0x61, 0x73, 0x73, 0x77, 0x6F, 0x72, 0x64, 0x00] ∧
      State.reset.keyBytes = [0x00] := by
  decide +kernel
theorem test_key_truncated : (State.reset.hostWrite 0x001C 80).keyBytes = List.replicate 72 0x00 := by decide +kernel

/-- The P-box after a Sweep: the P part alone, since P does not change after it. -/
def sweptP (salt : Option (List Byte)) (cs : CipherState) : Vector Word 18 :=
  ((List.finRange 9).foldl (sweepP salt) { cs := cs, l := 0, r := 0, j := 0 }).cs.P

/-- V12a: the first pair that EXPAND_KEY writes. -/
theorem test_expandKey :
    let s := withPassword "password" afterInit
    encryptBlock (xorKey s.keyBytes s.cipher) 0 0 = (0x947A0830, 0xE1FDA458) := by
  decide +kernel
/-- V14: the first pair that EXPAND_SALT writes. -/
theorem test_expandSalt :
    let s := { afterInit with saltw := salt14 }
    encryptBlock (xorKey s.saltb s.cipher) 0 0 = (0x8D69EB5E, 0x6FCB6F91) := by
  decide +kernel
/-- V15a: the P-box that EXPAND_SALTED and EKS_START leave. -/
theorem test_expandSalted :
    let s := { withPassword "U*U" afterInit with saltw := salt14 }
    let p := sweptP (some s.saltb) (xorKey s.keyBytes s.cipher)
    p[0] = 0x74BDE96E ∧ p[1] = 0xDF6CD999 ∧ p[17] = 0x6D2821C5 := by
  decide +kernel
/-- V17, V17a. -/
theorem test_eksStart_cost :
    answers (run 0x13 { State.reset with cost := 0x80000004 }) (fun t => t.errcode == .costDomain && t.status.err) = true ∧
      answers (run 0x13 { State.reset with cost := 31 })
        (fun t => t.iterTotal == 0x80000000 && t.status.sched == .active && t.status.done) = true := by
  decide +kernel
/-- V15: STATUS = 0x42 and ITER_TOTAL = 16. -/
theorem test_eksStart_status :
    answers (run 0x13 { State.reset with cost := 4 }) (fun t => t.status.toWord == 0x42 && t.iterTotal == 16) = true := by
  decide +kernel
/-- V18. -/
theorem test_eksContinue_sequence :
    answers (run 0x14 State.reset) (fun t => t.errcode == .sequence && t.status.err && !t.status.done) = true := by
  decide +kernel
/-- V16, the last slice: ITER 15 to 16, SCHED COMPLETE, DONE and PROG. -/
theorem test_eksContinue_last :
    answers (run 0x14 { scheduled 15 State.reset with slice := 5 }) (fun t => t.iter == 16 && t.status.toWord == 0x8A) = true := by
  decide +kernel

/-! ### Chain unit and whole hash (V19 to V22o) -/

/-- One pass of the chain on the all-zero state exchanges the words of each block (R147, R211). -/
theorem test_chainPass_zero_state :
    chainPass CipherState.zero chainPhrase =
      #v[0x65616E42, 0x4F727068, 0x64657253, 0x65686F6C, 0x6F756274, 0x63727944] := by
  decide +kernel
theorem test_chain64_status :
    answers (run 0x20 { State.reset with blkL := 5 }) (fun t => t.status.toWord == 0x02 && t.blkL == 5) = true := by
  decide +kernel
/-- V22i. -/
theorem test_hash_cost :
    answers (run 0x21 { State.reset with cost := 2 }) (fun t => t.errcode == .costDomain && !t.status.prog && t.dig[0] == 0) =
      true := by
  decide +kernel
/-- V22n: the abort at ITER = 64. -/
theorem test_hash_abort :
    answers (step { inside 0x21 .loop afterInit with
        slice := 64, sliceCnt := 63, iter := 63, iterTotal := 1024, abortReq := true })
      (fun t => t.errcode == .aborted && t.iter == 64 && t.cipher.P[0] == 0 && t.status.toWord == 0x0C) = true := by
  decide +kernel
/-- V22j: the cost is checked first. -/
theorem test_verify_cost_first :
    answers (run 0x22 { withRef "n" State.reset with cost := 32 }) (fun t => t.errcode == .costDomain) = true := by
  decide +kernel
/-- V22k. -/
theorem test_verify_grammar :
    answers (run 0x22 { withRef "7uG0VCzI2bS7j6ymqJi9CdcdxiRTWNn" State.reset with cost := 4 })
      (fun t => t.errcode == .digestGrammar && t.iter == 0 && t.status.err) = true := by
  decide +kernel
/-- V22l: FixedEq sees a difference in position 0. -/
theorem test_fixedEq :
    fixedEq (ascii "8uG0VCzI2bS7j6ymqJi9CdcdxiRTWNy") (ascii "7uG0VCzI2bS7j6ymqJi9CdcdxiRTWNy") 31 = false ∧
      fixedEq (ascii "7uG0VCzI2bS7j6ymqJi9CdcdxiRTWNy") (ascii "7uG0VCzI2bS7j6ymqJi9CdcdxiRTWNy") 31 = true := by
  decide +kernel
/-- V22m. -/
theorem test_abort_idle :
    answers (run 0x0E { State.reset with cost := 3 }) (fun t => t.status.toWord == 0x02 && t.errcode == .none && t.cost == 3) =
      true := by
  decide +kernel

/-! ### Base64 unit (V21 to V25b) -/

theorem test_b64EncSalt :
    answers (run 0x30 { State.reset with saltw := #v[0x00010203, 0x04050607, 0x08090A0B, 0x0C0D0E0F] })
      (fun t => t.textb == ascii "..CA.uOD/eaGAOmJB.yMBu" ++ List.replicate 10 0x00) = true := by
  decide +kernel
theorem test_b64EncSalt_ones :
    answers (run 0x30 { State.reset with saltw := Vector.replicate 4 0xFFFFFFFF })
      (fun t => t.textb.take 22 == ascii "999999999999999999999u") = true := by
  decide +kernel
theorem test_b64DecSalt :
    answers (run 0x31 (withText "uuuuuuuuuuuuuuuuuuuuuu" State.reset))
      (fun t => t.saltw == #v[0xC30C30C3, 0x0C30C30C, 0x30C30C30, 0xC30C30C3] && t.status.done) = true := by
  decide +kernel
/-- V24, V24b: nonzero padding bits, and a short field. -/
theorem test_b64DecSalt_grammar :
    answers (run 0x31 (withText "CCCCCCCCCCCCCCCCCCCCCP" State.reset)) (fun t => t.errcode == .saltGrammar && t.saltw[0] == 0) =
        true ∧
      answers (run 0x31 (withText "....................." State.reset)) (fun t => t.errcode == .saltGrammar) = true := by
  decide +kernel
/-- G1: the digest of DIG = 342BF2F4 … 9F963A00. -/
theorem test_b64EncDigest :
    answers (run 0x32 { State.reset with
        dig := #v[0x342BF2F4, 0x1AA3A280, 0xC28E966C, 0xA26C0AD7, 0xEE539FB4, 0x9F963A00] })
      (fun t => t.textb == ascii "LAtw7/ohmmBAhnXqmkuIz83Rl5Qdjhm" ++ [0x00]) = true := by
  decide +kernel
theorem test_b64EncDigest_ones :
    answers (run 0x32 { State.reset with dig := Vector.replicate 6 0xFFFFFFFF })
      (fun t => t.textb == ascii "9999999999999999999999999999996" ++ [0x00]) = true := by
  decide +kernel
/-- V25a. -/
theorem test_b64DecDigest :
    answers (run 0x33 (withText "LAtw7/ohmmBAhnXqmkuIz83Rl5Qdjhm" State.reset))
      (fun t => t.dig == #v[0x342BF2F4, 0x1AA3A280, 0xC28E966C, 0xA26C0AD7, 0xEE539FB4, 0x9F963A00]) = true := by
  decide +kernel
/-- V25b. -/
theorem test_b64DecDigest_grammar :
    answers (run 0x33 (withText "LAtw7/ohmmBAhnXqmkuIz83Rl5Qdjhn" State.reset))
      (fun t => t.errcode == .digestGrammar && t.dig[0] == 0) = true := by
  decide +kernel
/-- V23b. -/
theorem test_b64Enc_short :
    b64Enc [0x01] = ascii ".O" ∧ b64Enc [0xFC] = ascii "9." ∧ b64Enc [0x12, 0x34, 0x56] = ascii "ChPU" := by
  decide +kernel

/-! ### Interface (V27 to V28c) and host framing (G7, G9) -/

theorem test_id_version : State.reset.hostRead 0x0000 = 0x54424345 ∧ State.reset.hostRead 0x0004 = 0x00010000 := by decide +kernel
/-- V27a. -/
theorem test_illegal_issue :
    let t := State.reset.hostWrite 0x0008 0x00000121
    t.hostRead 0x000C = 0x04 ∧ t.hostRead 0x0014 = 1 := by
  decide +kernel
/-- V27b to V27d. -/
theorem test_busy_window :
    let s := inside 0x21 .loop afterInit
    s.hostRead 0x0800 = 0 ∧ (s.hostWrite 0x0018 4).hostRead 0x000C = 0x21 ∧ (s.hostWrite 0x0018 4).cost = 0 ∧
      (s.hostWrite 0x0008 0x01).hostRead 0x000C = 0x21 ∧ (s.hostWrite 0x0008 0x0E).abortReq = true := by
  decide +kernel
/-- V27e. -/
theorem test_status_w1c :
    let s := { State.reset with
      status := { busy := false, done := true, err := false, prog := true, matched := false, ovr := true, sched := .none } }
    s.hostRead 0x000C = 0x2A ∧ (s.hostWrite 0x000C 0x08).hostRead 0x000C = 0x22 := by
  decide +kernel
/-- V28. -/
theorem test_irq :
    let s := { State.reset with status := { State.reset.status with done := true } }
    (s.hostWrite 0x0010 0x2).irq = true ∧ ((s.hostWrite 0x0010 0x2).hostWrite 0x000C 0x2).irq = false ∧ s.irq = false := by
  decide +kernel
/-- V28a to V28c. -/
theorem test_stored_values :
    (State.reset.hostWrite 0x0010 0xFFFFFFFF).hostRead 0x0010 = 0x2E ∧
      (State.reset.hostWrite 0x001C 0xFFFFFFFF).hostRead 0x001C = 72 ∧
      (State.reset.hostWrite 0x002C 0x12345678).hostRead 0x002C = 0 ∧
      (State.reset.hostWrite 0x0100 0x12345678).hostRead 0x0100 = 0 := by
  decide +kernel
/-- R120, first and last words of blocks. -/
theorem test_offsets :
    regAt 0x0084 = some (.pww 17) ∧ regAt 0x0088 = none ∧ regAt 0x0844 = some (.p 17) ∧ regAt 0x13FC = some (.s 0 255) ∧
      regAt 0x1400 = some (.s 1 0) ∧ regAt 0x1FFC = some (.s 3 255) := by
  decide +kernel
/-- PRG1: the words WRB and WRS write. -/
theorem test_wrb :
    wrb .pw (ascii "password") = [.access (.write 0x0040 4 0x70617373), .access (.write 0x0044 4 0x776F7264)] ∧
      (wrs .text (ascii "......................")).drop 5 =
        [.access (.write 0x00D4 4 0x2E2E0000), .access (.write 0x00D8 4 0), .access (.write 0x00DC 4 0)] := by
  decide +kernel
/-- G9. -/
theorem test_parse_rejects :
    parseHash (ascii "$2a$04$.....................+") = .error .salt ∧
      parseHash (ascii "$2a$04$.....................P") = .error .salt := by
  decide +kernel

/-- R283: a numeric cost is truncated; what is no number, negative or too great is refused. -/
theorem test_cost_argument :
    CostArg.value (.numeric ⟨63, 2, by decide, by decide⟩) = some 31 ∧
      ∀ a ∈ [CostArg.notNumeric, .numeric ⟨-1, 2, by decide, by decide⟩, .numeric ⟨65, 2, by decide, by decide⟩, .integer 0],
        generateSalt a [] = .error .costDomain := by
  decide +kernel
/-- R285: ERRCODE 2, 3, 4 and 6 are the kinds of TB §7, 1 and 5 are none. -/
theorem test_error_kinds :
    [(1 : Word), 2, 3, 4, 5, 6].map (fun w => (errCodeOfWord w).bind engineError) =
      [none, some .costDomain, some (.saltGrammar .salt), some (.saltGrammar .digest), none, some .cancelled] := by
  decide
/-- R285: after ERR the string in TEXTW is not returned. -/
theorem test_no_string_after_error :
    HostFlow.outcome (.hash { tag := (0x32, 0x61), cost := 3, saltField := [], digestField := none }) 0x00000004 2
      [0x4C417477] = some (.failed (some .costDomain)) := by
  decide
/-- A host in mode 1 that has reported 5 of 32. -/
def reporting (position : ProgressAt) : ProgressHost :=
  { flow := .verify, byIrq := false, position := position, reports := [{ num := 5, den := 32 }] }
/-- R279: PROG is cleared by a write of 0x8, and comes before DONE. -/
theorem test_progress_cleared :
    ((reporting .poll).observe 0x0000000A).access = some (.write 0x000C 4 0x00000008) ∧
      ((reporting .poll).observe 0x00000012).position = .ended (some (.matched true)) ∧
      ((reporting .poll).observe 0x00000001).position = .poll := by
  decide
/-- R279: a fraction is reported only if it is greater than the last one. -/
theorem test_progress_reported :
    ((reporting (.readTotal 7)).observe 32).reports = [⟨5, 32⟩, ⟨7, 32⟩] ∧
      ((reporting (.readTotal 5)).observe 32).reports = [⟨5, 32⟩] := by
  decide
/-- R279: a host that takes irq makes no access while the line is 0, and reads STATUS when it is 1. -/
theorem test_progress_irq :
    let h : ProgressHost := { reporting .poll with byIrq := true }
    let s : State := { State.reset with
      status := { State.reset.status with busy := true, prog := true }, irqEn := IrqEnable.ofWord 0x0E }
    h.waits State.reset = true ∧ (ProgressRun.hostAccess { host := h, machine := s }).host.position = .clear := by
  decide +kernel

/-- R279, mode 2: after a slice that is not the last comes EKS_CONTINUE, after the last CHAIN64, after ERR no command. STATUS
words: DONE with PROG and SCHED ACTIVE (0x4A) or COMPLETE (0x8A), ERR (0x04). -/
theorem test_sliced_next :
    let next : Word → ProgressHost := fun v => (((reporting (.await .eksContinue)).observe v).observe 10).observe 32
    (next 0x4A).access = some (.write 0x0008 4 0x00000014) ∧ (next 0x4A).reports = [⟨5, 32⟩, ⟨10, 32⟩] ∧
      (next 0x8A).access = some (.write 0x0008 4 0x00000020) ∧
      ((reporting (.await .eksContinue)).observe 0x04).access = some (.read 0x0014 4) := by
  decide
/-- R282: B64_ENC_SALT and reads of the words that hold TEXTB[0..21], TEXTW[0] to TEXTW[5]. -/
theorem test_salt_reads :
    (generateSaltProgram (List.replicate 16 0x00)).drop 6 =
      [0x00C0, 0x00C4, 0x00C8, 0x00CC, 0x00D0, 0x00D4].map fun off => .access (.read off 4) := by
  decide +kernel

/-! ### Witnesses: states and operands that meet the hypotheses of each statement, clause by clause -/

/-- The command of opcode `c` just accepted, COST = 4. -/
def hashAccepted (c : Byte) : State := { inside c .start State.reset with cost := 4 }

theorem witness_ResetTurnGivesResetState :
    ({ inside 0x21 .loop afterInit with schedule := [.rst, .host] } : State).schedule = .rst :: [.host] := rfl
theorem witness_StepRunsDecodedCommand :
    (hashAccepted 0x21).turn = some .engine ∧ (hashAccepted 0x21).status.busy = true ∧
      decodeWord 0x00000021 = .ok .hash ∧ (hashAccepted 0x21).cur = (0x00000021 : Word).extractLsb' 0 8 := by
  decide +kernel
theorem witness_RegisterMapRoundTrip :
    regAt 0x0000 = some .id ∧ regAt 0x0034 = some .blkR ∧ regAt 0x00FC = some (.refw 7) ∧ regAt 0x0800 = some (.p 0) ∧
      regAt 0x1FFC = some (.s 3 255) := by
  decide
/-- A defined access and one of each undefined kind, at the edges of the window. -/
theorem witness_OnlyDefinedAccessesPerformed :
    let s : Access → State := fun a => { State.reset with program := [.access a] }
    ∀ a ∈ [Access.read 0x1FFC 4, .write 0x2000 4 0, .read 0x0001 4, .read 0x0000 8],
      (s a).turn = some .host ∧ (s a).program = .access a :: [] := by
  decide +kernel
theorem witness_ReadsHaveNoSideEffects :
    (inside 0x02 .start afterInit).status.busy = true ∧ 0x0030 ≤ 0x0030 ∧ 0x0028 < 0x0030 ∧
      regAt 0x0028 = some .iterTotal ∧ State.reset.status.busy = false ∧ regAt 0x0030 = some .blkL := by
  decide +kernel
theorem witness_BusyReadsHideDataRegisters :
    let s := inside 0x21 .loop afterInit
    let s' : State := inside 0x21 .loop { withPassword "secret" State.reset with pwlen := 0 }
    s.status.busy = true ∧ s.status = s'.status ∧ s.irqEn = s'.irqEn ∧ s.errcode = s'.errcode ∧ s.cost = s'.cost ∧
      s.pwlen = s'.pwlen ∧ s.slice = s'.slice ∧ s.iter = s'.iter ∧ s.iterTotal = s'.iterTotal ∧ s.cipher.P[0] ≠ s'.cipher.P[0] ∧
      s.pww ≠ s'.pww := by
  decide +kernel
/-- Of ReservedAndReadOnlyOffsets and BusyWritesDropped: reserved offsets at the edges of the blocks. -/
theorem witness_reserved_offsets :
    ∀ off ∈ [0x002C, 0x0038, 0x0088, 0x00B8, 0x0100, 0x07FC, 0x0848, 0x0FFC],
      off % 4 = 0 ∧ off ≤ 0x1FFC ∧ ∀ r : Reg, r.offset ≠ off := by
  intro off h
  simp only [List.mem_cons, List.not_mem_nil, or_false] at h
  refine ⟨by omega, by omega, fun r => ?_⟩
  cases r <;> simp only [Reg.offset] <;> omega
/-- Of IdleWriteReadsBack and ScheduleBreakingWrites; PWLEN at both sides of 72. -/
theorem witness_IdleWrites :
    State.reset.status.busy = false ∧
      (∀ r ∈ [Reg.pwlen, .irqEn, .cost, .slice, .pww 17, .saltw 3, .refw 7, .p 0, .s 3 255, .dig 5, .textw 7, .blkL],
        r ∉ [Reg.id, .version, .cmd, .status, .errcode, .iter, .iterTotal]) ∧
      (72 : Word).toNat ≤ 72 ∧ ¬(73 : Word).toNat ≤ 72 := by
  decide
/-- Of BusyWritesDropped and IssueWhileBusy. -/
theorem witness_BusyWrites :
    (inside 0x21 .loop State.reset).status.busy = true ∧ (∀ r ∈ [Reg.status, .irqEn, .iter, .cost, .s 0 0], r ≠ .cmd) := by
  decide
theorem witness_IssueWhileIdle :
    State.reset.status.busy = false ∧ decodeWord 0x00000020 = .ok .chain64 ∧ (0xFF000001 : Word).extractLsb' 8 24 ≠ 0 ∧
      (0x00000004 : Word).extractLsb' 0 8 ∉ opcodes := by
  decide
theorem witness_OvrSetAndClearedOnlyAsStated :
    let s : State := { inside 0x21 .loop State.reset with program := [.access (.write 0x0018 4 4)], schedule := [.host] }
    let u : State := { State.reset with
      status := { State.reset.status with ovr := true }, program := [.access (.write 0x000C 4 0x20)] }
    s.status.ovr = false ∧ answers (step s) (fun t => t.status.ovr) = true ∧ u.status.ovr = true ∧
      answers (step u) (fun t => !t.status.ovr) = true := by
  decide +kernel
theorem witness_EncryptIsInjective : encryptBlock romCipher 1 2 = encryptBlock romCipher 1 2 := rfl
theorem witness_StreamWordIsCyclic : 4 < [(0x61 : Byte), 0x62, 0x63, 0x64, 0x00].length ∧ 0 < [(0x00 : Byte)].length := by decide
theorem witness_KeyBytesTerminatedAndTruncated :
    let s : Word → State := fun n => { State.reset with pwlen := n }
    (s 0).pwlen.toNat < 72 ∧ (s 71).pwlen.toNat < 72 ∧ (s 72).pwlen.toNat ≤ 72 ∧ (71 : Fin 72).val < (s 72).pwlen.toNat := by
  decide +kernel
theorem witness_XorKeyMixesCyclicStream : [(0x00 : Byte)] ≠ [] := by decide
theorem witness_EmptyPasswordMixesNothing : State.reset.pwlen = 0 ∧ 0 < 1 := by decide
theorem witness_ExpandCommandsRunOnePass :
    afterInit.saltw = Vector.replicate 4 0 ∧ afterInit.pwlen = 0 ∧ afterInit.cipher ≠ CipherState.zero := by
  decide +kernel
/-- Of EksStartBeginsSchedule: costs at both ends of the range and just outside it. -/
theorem witness_Costs :
    4 ≤ (4 : Word).toNat ∧ (31 : Word).toNat ≤ 31 ∧ (3 : Word).toNat < 4 ∧ 31 < (32 : Word).toNat ∧
      31 < (0x80000004 : Word).toNat := by
  decide
theorem witness_EksContinueStep :
    let a := scheduled 0 (inside 0x14 .start State.reset)
    let b : State := { scheduled 4 (inside 0x14 .loop State.reset) with slice := 5, sliceCnt := 4 }
    let c : State := { scheduled 15 (inside 0x14 .loop State.reset) with abortReq := true }
    (State.reset.phase = .start ∧ State.reset.status.sched ≠ .active) ∧
      (a.phase = .start ∧ a.status.sched = .active ∧ ¬a.endsSlice) ∧ (b.phase = .loop ∧ b.endsSlice ∧ b.abortReq = false) ∧
      (c.phase = .loop ∧ c.endsSlice ∧ c.abortReq = true) := by
  simp only [State.endsSlice]
  decide +kernel
theorem witness_EksContinueStopsAtFinish :
    (inside 0x14 .finish State.reset).phase = .finish ∧ (inside 0x14 .finish State.reset).status.busy = true ∧
      (inside 0x14 .finish State.reset).cur = 0x14 := by
  decide

/-- EKS_CONTINUE just accepted on a schedule of 16 iterations, `n` of them done. -/
def continueAccepted (n slice : Word) : State := { scheduled n (inside 0x14 .start State.reset) with slice := slice }

theorem continueAccepted_inv {n : Word} (h : n.toNat < 16) (slice : Word) : (continueAccepted n slice).Inv where
  pwlen_le := by simp [continueAccepted, scheduled, inside, State.reset]
  busy_cur _ := by simp only [continueAccepted, scheduled, inside]; decide
  idle_seq h := by simp [continueAccepted, scheduled, inside] at h
  busy_flags _ := ⟨rfl, rfl, rfl, rfl⟩
  one_outcome h := by simp [continueAccepted, scheduled, inside, State.reset] at h
  done_code _ := rfl
  err_code h := by simp [continueAccepted, scheduled, inside, State.reset] at h
  total_pow := .inr ⟨4, by decide, by decide, by simp [continueAccepted, scheduled]⟩
  iter_le := by simp only [continueAccepted, scheduled]; exact Nat.le_of_lt h
  active_lt _ := by simpa [continueAccepted, scheduled] using h
  complete_eq h := by simp [continueAccepted, scheduled] at h
  loop_cmd h := by simp [continueAccepted, scheduled, inside] at h
  finish_cmd h := by simp [continueAccepted, scheduled, inside] at h
  slice_zero _ := by simp [continueAccepted, scheduled, inside, State.reset]
  slice_lt h := by simp [continueAccepted, scheduled, inside] at h

/-- SLICE = 0, smaller than the 13 iterations left, and larger. -/
theorem witness_EksContinueRunsOneSlice :
    ∀ slice ∈ [(0 : Word), 5, 100], (continueAccepted 3 slice).Inv ∧ (continueAccepted 3 slice).status.busy = true ∧
      (continueAccepted 3 slice).cur = 0x14 ∧ (continueAccepted 3 slice).phase = .start ∧
      (continueAccepted 3 slice).status.sched = .active ∧ (continueAccepted 3 slice).abortReq = false :=
  fun slice _ => ⟨continueAccepted_inv (by decide) slice, rfl, rfl, rfl, rfl, rfl⟩
/-- Also of IterationCountersMoveAsStated. -/
theorem witness_StepKeepsInvariant :
    (continueAccepted 3 5).Inv ∧ ∃ t, step (continueAccepted 3 5) = .next t :=
  ⟨continueAccepted_inv (by decide) 5, eksLoop (continueAccepted 3 5), rfl⟩
/-- A schedule just begun satisfies the schedule invariant, and its first iteration leaves SCHED at ACTIVE. -/
theorem witness_ScheduleInvariantKept :
    let s : State := { continueAccepted 0 5 with
      cipher := expandSalted State.reset.keyBytes State.reset.saltb romCipher }
    s.Inv ∧
      (s.status.sched ≠ .none →
        s.cipher = (iterateCipher s.keyBytes s.saltb)^[s.iter.toNat] (expandSalted s.keyBytes s.saltb romCipher)) ∧
      ∃ t, step s = .next t ∧ t.status.sched ≠ .none :=
  have h := continueAccepted_inv (n := 0) (by decide) 5
  ⟨⟨h.1, h.2, h.3, h.4, h.5, h.6, h.7, h.8, h.9, h.10, h.11, h.12, h.13, h.14, h.15⟩, fun _ => rfl, _, rfl,
    by decide +kernel⟩
theorem witness_HashVerifyStartStep :
    let s : Word → State := fun n => { hashAccepted 0x22 with cost := n }
    let g := withRef "7uG0VCzI2bS7j6ymqJi9CdcdxiRTWNy" (s 31)
    (s 3).phase = .start ∧ (s 3).cost.toNat < 4 ∧ 31 < (s 32).cost.toNat ∧ fieldOk ((s 4).refb.take 31) 2 = false ∧
      4 ≤ g.cost.toNat ∧ g.cost.toNat ≤ 31 ∧ fieldOk (g.refb.take 31) 2 = true ∧ g.phase = .start := by
  decide +kernel
/-- Also of HashVerifyFinishStep. -/
theorem witness_HashVerifyLoopStep :
    let s : State := { scheduled 63 (inside 0x21 .loop State.reset) with iterTotal := 1024, slice := 64, sliceCnt := 63 }
    s.phase = .loop ∧ s.abortReq = false ∧ s.endsSlice ∧ ¬(scheduled 0 (inside 0x21 .loop State.reset)).endsSlice ∧
      ({ s with abortReq := true } : State).abortReq = true ∧ (inside 0x21 .finish State.reset).phase = .finish := by
  simp only [State.endsSlice]
  decide +kernel
theorem witness_HashComputesDigest :
    let s := hashAccepted 0x21
    s.status.busy = true ∧ s.cur = 0x21 ∧ s.phase = .start ∧ s.abortReq = false ∧ 4 ≤ s.cost.toNat ∧ s.cost.toNat ≤ 31 := by
  decide +kernel
theorem witness_VerifyComparesDigestField :
    let s := withRef "7uG0VCzI2bS7j6ymqJi9CdcdxiRTWNy" (hashAccepted 0x22)
    s.status.busy = true ∧ s.cur = 0x22 ∧ s.phase = .start ∧ s.abortReq = false ∧ 4 ≤ s.cost.toNat ∧ s.cost.toNat ≤ 31 ∧
      fieldOk (s.refb.take 31) 2 = true := by
  decide +kernel
theorem witness_AbortActsOnlyAtBoundary :
    let s : State := { scheduled 15 (inside 0x22 .loop State.reset) with abortReq := true }
    Instr.encrypt ∉ [Instr.eksContinue, .hash, .verify] ∧ Instr.verify ≠ .eksContinue ∧
      (inside 0x22 .finish State.reset).phase = .finish ∧ s.status.busy = true ∧ s.phase = .loop ∧ s.abortReq = true ∧
      s.iter + 1 = s.iterTotal := by
  decide
theorem witness_AlphabetIndexInverse : 63 < 64 ∧ indexOf 0x39 = some 63 ∧ indexOf 0x2E = some 0 := by decide
theorem witness_Base64RoundTrip :
    (List.replicate 16 (0xFF : Byte)).length = 16 ∧ (List.replicate 23 (0xFF : Byte)).length = 23 ∧
      (ascii "uuuuuuuuuuuuuuuuuuuuuu").length = 22 ∧ fieldOk (ascii "uuuuuuuuuuuuuuuuuuuuuu") 4 = true ∧
      (ascii "LAtw7/ohmmBAhnXqmkuIz83Rl5Qdjhm").length = 31 ∧ fieldOk (ascii "LAtw7/ohmmBAhnXqmkuIz83Rl5Qdjhm") 2 = true := by
  decide +kernel
theorem witness_FieldLastCharacters : ∀ x ∈ ascii "CCCCCCCCCCCCCCCCCCCCC", (indexOf x).isSome = true := by decide +kernel
/-- Of SaltDecoderChecksField and DigestDecoderChecksField, each way they can end. -/
theorem witness_Decoders :
    fieldOk ((withText "uuuuuuuuuuuuuuuuuuuuuu" State.reset).textb.take 22) 4 = true ∧
      fieldOk (State.reset.textb.take 22) 4 = false ∧
      fieldOk ((withText "LAtw7/ohmmBAhnXqmkuIz83Rl5Qdjhm" State.reset).textb.take 31) 2 = true ∧
      fieldOk (State.reset.textb.take 31) 2 = false := by
  decide +kernel
theorem witness_AdmittedRunsNeverStop :
    State.reset.Inv ∧ admittedProgram (hashProgram [0x70] 4 (ascii "......................") 0) = true :=
  ⟨by constructor <;> simp [State.reset], by decide +kernel⟩
/-- Of ExactlyOneTerminalOutcome and CommandsKeepHostRegisters: a command that ends with DONE, one that ends with ERR, one that goes on, one that zeroes the schedule. -/
theorem witness_Commands :
    let s := hashAccepted 0x21
    s.status.busy = true ∧ s.status.done = false ∧ s.status.err = false ∧ (exec .encrypt s matches .next _) = true ∧
      (exec .eksContinue s matches .next _) = true ∧ (exec .hash s matches .next _) = true ∧
      (exec .scrub s matches .next _) = true := by
  decide +kernel
/-- Of the other clauses of ExactlyOneTerminalOutcome: idle after ERR, after DONE and after neither, a transition of a host
that reports, one that has ended, and a host in mode 2 after a slice and after its last one. -/
theorem witness_ExactlyOneTerminalOutcome :
    let st : Bool → Bool → State := fun e d => { State.reset with status := { State.reset.status with err := e, done := d } }
    let r : ProgressAt → ProgressRun := fun p => { host := reporting p, machine := st false true }
    (∀ e d, (st e d).status.busy = false ∧ (st e d).status.err = e ∧ (st e d).status.done = d ∧
        (st e d).status.prog = false) ∧
      (∀ p, (∃ r', progressTurn .host (r p) = .next r') ∧ (r p).host.byIrq = false ∧ (r p).host.position = p ∧
        (r p).machine.program = []) ∧
      (reporting .poll).reports.getLast? = some { num := 5, den := 32 } ∧
      (scheduled 4 State.reset).status.sched ≠ .complete ∧
      ({ State.reset with status := { State.reset.status with done := true, sched := .complete } } : State).status.sched =
        .complete ∧
      (ProgressHost.startSliced { tag := (0x32, 0x61), cost := 5, saltField := [], digestField := none }).flow =
        .hash { tag := (0x32, 0x61), cost := 5, saltField := [], digestField := none } :=
  ⟨fun _ _ => ⟨rfl, rfl, rfl, rfl⟩, fun _ => ⟨⟨_, rfl⟩, rfl, rfl, rfl⟩, rfl, by decide, rfl, rfl⟩
theorem witness_InstancesShareNoState :
    [State.reset, hashAccepted 0x13][1]? = some (hashAccepted 0x13) ∧
      ∃ pl', platformStep 1 [State.reset, hashAccepted 0x13] = .next pl' := ⟨rfl, _, rfl⟩
/-- Integers and other numbers at both ends of the range. -/
theorem witness_GeneratedSaltParses :
    (List.replicate 16 (0xA5 : Byte)).length = 16 ∧ (4 : Int) ≤ 4 ∧ (31 : Int) ≤ 31 ∧ (3 : Int) < 4 ∧ (31 : Int) < 32 ∧
      (4 : Rat) ≤ 4 ∧ (63 / 2 : Rat) < 32 ∧ (7 / 2 : Rat) < 4 ∧ (32 : Rat) ≤ 32 := by
  norm_num
theorem witness_ParsedHashReformats :
    ∃ p, parseHash (ascii "$2a$05$CCCCCCCCCCCCCCCCCCCCC.E5YPO9kmyuRGyh0XouQYb4YMJKvyOeW") = .ok p ∧ p.digestField ≠ none :=
  ⟨{ tag := (0x32, 0x61), cost := 5, saltField := ascii "CCCCCCCCCCCCCCCCCCCCC.",
     digestField := some (ascii "E5YPO9kmyuRGyh0XouQYb4YMJKvyOeW") }, by decide +kernel, by decide +kernel⟩
theorem witness_PasswordWritesGiveTruncatedKey :
    let s : State := { State.reset with program := passwordWrites (List.replicate 80 0x41) }
    s.status.busy = false ∧ s.program = passwordWrites (List.replicate 80 0x41) :=
  ⟨rfl, rfl⟩

end Sys2Proof.Tests
end

section
/-! PROOFS. The register window as the host sees it (10_state.md): reset values, reads, and what a write may change, while
idle and while BUSY. -/

namespace Sys2Proof.Machine

/-! ### Offsets and registers (R49, R61) -/

theorem offset_of_blockIndex_map {base n off : Nat} {f : Fin n → Reg} {r : Reg} (hbase : base % 4 = 0)
    (hoff : off % 4 = 0) (hf : ∀ k, (f k).offset = base + 4 * k.val) (h : (blockIndex base n off).map f = some r) :
    r.offset = off := by
  obtain ⟨k, hk, rfl⟩ := Option.map_eq_some_iff.mp h
  obtain ⟨hle, hdiv⟩ := blockIndex_some hk
  rw [hf]
  omega

/-- The S-boxes lie one after the other, so word `k` of the block of all four is at `0x1000 + 4 * k`. -/
theorem offset_s_div_mod {k : Nat} (hb : k / 256 < 4) (hi : k % 256 < 256) :
    (Reg.s ⟨k / 256, hb⟩ ⟨k % 256, hi⟩).offset = 0x1000 + 4 * k := by
  simp only [Reg.offset]
  omega

theorem offset_of_regAt {off : Nat} {r : Reg} (hoff : off % 4 = 0) (h : regAt off = some r) : r.offset = off := by
  unfold regAt at h
  split at h
  · exact controlRegAt_some h
  iterate 6
    split at h
    · exact offset_of_blockIndex_map rfl hoff (fun _ => rfl) h
  exact offset_of_blockIndex_map rfl hoff (fun _ => offset_s_div_mod _ _) h

theorem regAt_reserved {off : Nat} (hoff : off % 4 = 0) (h : ∀ r : Reg, r.offset ≠ off) : regAt off = none :=
  Option.eq_none_iff_forall_ne_some.mpr fun r hr => h r (offset_of_regAt hoff hr)

/-! ### Reads (R49, R53) -/

theorem hostRead_reserved {off : Nat} (h : regAt off = none) (s : State) : s.hostRead off = 0 := by
  simp only [State.hostRead, h]

/-- Below 0x0030, and anywhere while idle, a read returns the register's value (R53). -/
theorem hostRead_shown {s : State} {off : Nat} {r : Reg} (hreg : regAt off = some r)
    (h : s.status.busy = false ∨ off < 0x0030) : s.hostRead off = s.regValue r := by
  have hshown : ¬(s.status.busy = true ∧ 0x0030 ≤ off) := by
    rcases h with h | h
    · simp [h]
    · omega
  simp only [State.hostRead, hreg, if_neg hshown]

theorem hostRead_hidden {s : State} {off : Nat} (hbusy : s.status.busy = true) (hoff : 0x0030 ≤ off) :
    s.hostRead off = 0 := by
  cases hreg : regAt off with
  | none => exact hostRead_reserved hreg s
  | some r => simp only [State.hostRead, hreg, if_pos (And.intro hbusy hoff)]

/-! ### Writes (R24, R26, R49, R54, R55) -/

theorem hostWrite_reserved {off : Nat} (h : regAt off = none) (s : State) (v : Word) : s.hostWrite off v = s := by
  simp only [State.hostWrite, h]

/-- A write acts as while BUSY or as while idle. -/
theorem hostWrite_of_both {s t : State} {r : Reg} {v : Word} (hbusy : writeBusy s r v = t)
    (hidle : writeIdle s r v = t) : s.hostWrite r.offset v = t := by
  cases hb : s.status.busy with
  | true => rw [hostWrite_busy hb, hbusy]
  | false => rw [hostWrite_idle hb, hidle]

theorem hostWrite_readOnly {r : Reg} (hr : r ∈ [Reg.id, .version, .errcode, .iter, .iterTotal]) (s : State) (v : Word) :
    s.hostWrite r.offset v = s := by
  simp only [List.mem_cons, List.not_mem_nil, or_false] at hr
  rcases hr with rfl | rfl | rfl | rfl | rfl <;> exact hostWrite_of_both rfl rfl

theorem hostWrite_status (s : State) (w : Word) :
    s.hostWrite 0x000C w = { s with status := s.status.clearW1C w } :=
  hostWrite_of_both (r := .status) rfl rfl

/-- A write while BUSY to any register but CMD, STATUS, IRQ_EN and the read-only ones is dropped (R54). -/
theorem writeBusy_dropped (s : State) (v : Word) {r : Reg} (hcmd : r ≠ .cmd) (hstatus : r ≠ .status)
    (hirq : r ≠ .irqEn) (hro : r ∉ [Reg.id, .version, .errcode, .iter, .iterTotal]) : writeBusy s r v = dropWrite s := by
  cases r with
  | cmd => exact absurd rfl hcmd
  | status => exact absurd rfl hstatus
  | irqEn => exact absurd rfl hirq
  | id | version | errcode | iter | iterTotal => exact absurd (by decide) hro
  | _ => rfl

/-- A write while idle to PWLEN, PWW, SALTW, P or S breaks the schedule and leaves the rest of STATUS (R55). -/
theorem writeIdle_status_of_schedule {r : Reg}
    (hr : r = .pwlen ∨ (∃ i, r = .pww i) ∨ (∃ i, r = .saltw i) ∨ r.inCipher = true) (s : State) (v : Word) :
    (writeIdle s r v).status = { s.status with sched := .none } := by
  rcases hr with rfl | ⟨i, rfl⟩ | ⟨i, rfl⟩ | hr
  · rfl
  · rfl
  · rfl
  · cases r with
    | p i => rfl
    | s b i => rfl
    | _ => cases hr

/-- A write while idle to another operand leaves STATUS. -/
theorem writeIdle_status_of_other {r : Reg}
    (hr : r = .irqEn ∨ r = .cost ∨ r = .slice ∨ r.inBlk = true ∨ r.inDig = true ∨ r.inText = true ∨ ∃ i, r = .refw i)
    (s : State) (v : Word) : (writeIdle s r v).status = s.status := by
  cases r with
  | irqEn | cost | slice | blkL | blkR | dig | textw | refw => rfl
  | _ => simp [Reg.inBlk, Reg.inDig, Reg.inText] at hr

/-! ### STATUS and reset (R26, R57) -/

theorem sched_bits_mem (v : Sched) :
    (v, v.bits) ∈ [(Sched.none, (0 : BitVec 2)), (.active, 1), (.complete, 2)] := by
  cases v <;> decide

theorem reset_regValue (r : Reg) :
    State.reset.regValue r = if r = .id then 0x54424345 else if r = .version then 0x00010000 else 0 := by
  cases r with
  | pww | saltw | dig | textw | refw => exact Vector.getElem_replicate _
  | p i => exact Vector.getElem_replicate _
  | s b i => simp [State.regValue, State.reset, CipherState.zero]
  | _ => rfl

end Sys2Proof.Machine

open Sys2Proof Sys2Proof.Machine

/-- Settles O1, register by register. -/
theorem resetLeavesSpecValues : Obligations.ResetLeavesSpecValues :=
  ⟨reset_regValue, rfl, rfl, rfl, rfl, rfl⟩

/-- Settles O8: a read is hidden while BUSY at 0x0030 and above and shown otherwise, and changes only `results`. -/
theorem readsHaveNoSideEffects : Obligations.ReadsHaveNoSideEffects := fun _ _ =>
  ⟨hostRead_hidden, fun _ hlow hreg => hostRead_shown hreg (.inr hlow),
    fun _ hidle hreg => hostRead_shown hreg (.inl hidle),
    hostRead_shown (r := .cmd) rfl (.inr (by decide)), _, rfl⟩

/-- Settles O10: no register is at a reserved offset, and a read-only register ignores writes in both modes. -/
theorem reservedAndReadOnlyOffsets : Obligations.ReservedAndReadOnlyOffsets := by
  intro s v
  refine ⟨fun off halign _ hfree => ?_, fun r hr => hostWrite_readOnly hr s v,
    hostRead_shown (r := .id) rfl (.inr (by decide)), hostRead_shown (r := .version) rfl (.inr (by decide))⟩
  have hnone := regAt_reserved halign hfree
  exact ⟨hostRead_reserved hnone s, hostWrite_reserved hnone s v⟩

/-- Settles O12, from what a write while idle leaves in STATUS. -/
theorem scheduleBreakingWrites : Obligations.ScheduleBreakingWrites := by
  intro s v hidle
  refine ⟨fun r hr => ?_, fun r hr => ?_⟩
  · rw [hostWrite_idle hidle]
    exact writeIdle_status_of_schedule hr s v
  · rw [hostWrite_idle hidle]
    exact writeIdle_status_of_other hr s v

/-- Settles O13, along the four kinds of register and the reserved offsets. -/
theorem busyWritesDropped : Obligations.BusyWritesDropped := by
  intro s v hbusy
  refine ⟨fun r hcmd => ?_, fun off halign _ hfree => hostWrite_reserved (regAt_reserved halign hfree) s v⟩
  split_ifs with hstatus hirq hro
  · subst hstatus
    exact hostWrite_status s v
  · subst hirq
    exact hostWrite_busy hbusy .irqEn v
  · exact hostWrite_readOnly hro s v
  · rw [hostWrite_busy hbusy]
    exact writeBusy_dropped s v hcmd hstatus hirq hro

/-- Settles O14, from the bits of the word STATUS reads as. -/
theorem statusWriteOneToClear : Obligations.StatusWriteOneToClear := by
  refine ⟨(hostRead_status _).trans (by decide), fun s w => ?_⟩
  obtain ⟨hbusy, hdone, herr, hprog, hmatch, hovr, hsched, hhigh⟩ := status_bits s.status
  rw [hostWrite_status, hostRead_status, hostRead_status, hsched]
  exact ⟨hbusy, hdone, herr, hprog, hmatch, hovr, sched_bits_mem _, hhigh, clearW1C_word _ w, rfl⟩
end

section
/-! PROOFS. The constant tables (11_constant_tables.md). -/

open Sys2Proof Sys2Proof.Machine

/-- Settles O21. The claim is about fixed data, so each row of R76, one per table and one for all 1042 words, is evaluated
on its own by the kernel. -/
theorem tablesPassTranscriptionChecks : Obligations.TablesPassTranscriptionChecks := by
  simp only [Obligations.TablesPassTranscriptionChecks, List.forall_mem_cons]
  refine ⟨?p, ?s0, ?s1, ?s2, ?s3, ?all, List.forall_mem_nil _⟩
  all_goals decide +kernel
end

section
/-! PROOFS. The device contract of a host access (20_memory.md R84). -/

namespace Sys2Proof.Machine

/-- R84: which accesses have a reason to be refused. -/
theorem accessRefusal_ne_none_iff (a : Access) :
    accessRefusal a ≠ none ↔ a.width ≠ 4 ∨ a.off % 4 ≠ 0 ∨ 0x1FFC < a.off := by
  unfold accessRefusal
  split_ifs with hwidth haligned hwindow
  · simp [hwidth]
  · simp [haligned]
  · simp [hwindow]
  · simp [hwidth, haligned, hwindow]

theorem accessStep_refused_iff (a : Access) (s : State) :
    (∃ r, accessStep a s = .refused r) ↔ accessRefusal a ≠ none := by
  cases h : accessRefusal a <;> simp [accessStep, h]

/-- An access that is not refused gives a next state: it never faults. -/
theorem accessStep_next_of_not_refused {a : Access} {s : State} (h : ¬∃ r, accessStep a s = .refused r) :
    ∃ t, accessStep a s = .next t := by
  rw [accessStep_refused_iff, not_not] at h
  exact ⟨performAccess a s, by simp only [accessStep, h]⟩

/-- The host's transition when its next statement is an access (R90, R118). -/
theorem step_host_access {s : State} {a : Access} {rest : List Stmt} (hturn : s.turn = some .host)
    (hprog : s.program = .access a :: rest) : step s = accessStep a { s.popTurn with program := rest } := by
  simp only [step, hturn, takeTurn, hostTurn, popTurn_program, hprog]

end Sys2Proof.Machine

open Sys2Proof Sys2Proof.Machine

/-- Settles O7: the step is that of the access, which is refused for the reasons of R84 and for no other. -/
theorem onlyDefinedAccessesPerformed : Obligations.OnlyDefinedAccessesPerformed := by
  intro s a rest hturn hprog
  rw [step_host_access hturn hprog]
  exact ⟨(accessStep_refused_iff a _).trans (accessRefusal_ne_none_iff a), accessStep_next_of_not_refused⟩
end

section
/-! PROOFS. The map of offsets and the issue of command words (30_encoding.md R113, R116, R120). -/

namespace Sys2Proof.Machine

/-! ### Offsets (R120) -/

theorem offset_aligned (r : Reg) : r.offset % 4 = 0 := by
  cases r <;> simp only [Reg.offset] <;> omega

theorem offset_le (r : Reg) : r.offset ≤ 0x1FFC := by
  cases r <;> simp only [Reg.offset] <;> omega

/-! ### Legal command words (R111, R114, R115) -/

theorem mem_opcodes_of_decodeOpcode {opc : Byte} {i : Instr} (h : decodeOpcode opc = some i) : opc ∈ opcodes := by
  obtain ⟨row, hfind, -⟩ := Option.map_eq_some_iff.mp h
  have hopc : row.1 = opc := by simpa using List.find?_some hfind
  have hmem : row.1 ∈ opcodeTable.map Prod.fst := List.mem_map_of_mem (List.mem_of_find?_eq_some hfind)
  exact hopc ▸ hmem

theorem reserved_eq_zero_of_decodeWord {w : Word} {i : Instr} (h : decodeWord w = .ok i) : w.extractLsb' 8 24 = 0 := by
  by_contra hrsv
  rw [decodeWord, if_pos hrsv] at h
  cases h

/-- A word with a reserved bit set or an unassigned opcode is no command. -/
theorem decodeWord_ne_ok {w : Word} (h : w.extractLsb' 8 24 ≠ 0 ∨ w.extractLsb' 0 8 ∉ opcodes) (i : Instr) :
    decodeWord w ≠ .ok i := by
  intro hok
  rcases h with hrsv | hopc
  · exact hrsv (reserved_eq_zero_of_decodeWord hok)
  · exact hopc (mem_opcodes_of_decodeOpcode (decodeWord_opcode hok))

/-! ### Issue (R16, R113) -/

/-- The state in which the command of the word `v` has just been accepted. -/
def acceptCommand (v : Word) (s : State) : State :=
  { s with
    status := { s.status.clearOutcome with busy := true }
    errcode := .none
    cur := v.extractLsb' 0 8
    phase := .start }

theorem issueIdle_legal {v : Word} {i : Instr} (h : decodeWord v = .ok i) (s : State) :
    issueIdle v s = acceptCommand v s := by
  rcases issueIdle_cases v s with ⟨_, -, heq⟩ | ⟨⟨e, herr⟩, -⟩
  · exact heq
  · simp [h] at herr

theorem issueIdle_illegal {v : Word} (h : ∀ i, decodeWord v ≠ .ok i) (s : State) :
    issueIdle v s = { s with status := { s.status.clearOutcome with err := true }, errcode := .illegalCmd } := by
  rcases issueIdle_cases v s with ⟨i, hok, -⟩ | ⟨-, heq⟩
  · exact absurd hok (h i)
  · exact heq

/-- While BUSY an engine step is one of the command CUR names. -/
theorem engineTurn_busy {s : State} {i : Instr} (hbusy : s.status.busy = true) (hcur : decodeOpcode s.cur = some i) :
    engineTurn s = exec i s := by
  simp only [engineTurn, hbusy, if_true, hcur]

theorem engineTurn_acceptCommand {v : Word} {i : Instr} (h : decodeWord v = .ok i) (s : State) :
    engineTurn (acceptCommand v s) = exec i (acceptCommand v s) :=
  engineTurn_busy rfl (decodeWord_opcode h)

/-- The word ERRCODE reads as for each code (R36, R301). -/
theorem errCode_word_mem (e : ErrCode) :
    (e, e.code.setWidth 32) ∈
      [(ErrCode.none, (0 : Word)), (.illegalCmd, 1), (.costDomain, 2), (.saltGrammar, 3), (.digestGrammar, 4),
        (.sequence, 5), (.aborted, 6)] := by
  cases e <;> decide

end Sys2Proof.Machine

open Sys2Proof Sys2Proof.Machine

/-- Settles O6: the rows of R120 are those of `Reg.offset`, and `regAt` inverts it on aligned offsets. -/
theorem registerMapRoundTrip : Obligations.RegisterMapRoundTrip := by
  refine ⟨?rows, fun r => ⟨regAt_offset r, offset_aligned r, offset_le r⟩,
    fun _ _ halign _ hreg => offset_of_regAt halign hreg⟩
  case rows => and_intros <;> intros <;> rfl

/-- Settles O15, along the legal and the illegal words. -/
theorem issueWhileIdle : Obligations.IssueWhileIdle := by
  refine ⟨fun s => ?_, fun s v hidle => ?_⟩
  · rw [hostRead_errcode]
    exact errCode_word_mem s.errcode
  · have hwrite : s.hostWrite 0x0008 v = issueIdle v s := hostWrite_idle hidle .cmd v
    rw [hwrite]
    refine ⟨fun i hok => ?legal, fun hbad => ?illegal⟩
    case legal =>
      rw [issueIdle_legal hok]
      exact ⟨rfl, engineTurn_acceptCommand hok s⟩
    case illegal => exact issueIdle_illegal (decodeWord_ne_ok hbad) s

/-- Settles O16: while BUSY a write to CMD is `issueBusy`, which asks for the word of ABORT alone. -/
theorem issueWhileBusy : Obligations.IssueWhileBusy := fun _ v hbusy => hostWrite_busy hbusy .cmd v
end

section
/-! PROOFS. The cipher unit (41_cipher.md): Encrypt on the all-zero CipherState, and what INIT, ENCRYPT and SCRUB write
and leave. -/

namespace Sys2Proof.Machine

/-! ### Encrypt on the all-zero CipherState (R147) -/

@[simp] theorem zero_P_get {k : Nat} (hk : k < 18) : CipherState.zero.P[k] = 0 := by simp [CipherState.zero]

@[simp] theorem zero_S_get {b k : Nat} (hb : b < 4) (hk : k < 256) : CipherState.zero.S[b][k] = 0 := by
  simp [CipherState.zero]

theorem mixF_zero (x : Word) : mixF CipherState.zero x = 0 := by
  have hsbox (b : Fin 4) (y : Byte) : CipherState.zero.sbox b y = 0 := zero_S_get b.isLt y.isLt
  simp [mixF, hsbox]

theorem feistelRound_zero : feistelRound CipherState.zero = fun lr _ => lr.swap := by
  funext lr i
  simp [feistelRound, mixF_zero, Prod.swap]

/-- Sixteen rounds of exchanging the halves cancel out, so the undoing swap of R142 is left. -/
theorem encryptBlock_zero (l r : Word) : encryptBlock CipherState.zero l r = (r, l) := by
  have hrounds : (List.finRange 16).foldl (feistelRound CipherState.zero) (l, r) = (l, r) :=
    calc (List.finRange 16).foldl (feistelRound CipherState.zero) (l, r)
      _ = Prod.swap^[16] (l, r) := by rw [feistelRound_zero, List.foldl_const, List.length_finRange]
      _ = (l, r) := rfl
  rw [encryptBlock, hrounds]
  simp

/-! ### Command words (R143 to R145) -/

theorem decodeWord_encode (i : Instr) : decodeWord (encode i) = .ok i := by
  cases i <;> rfl

theorem decodeWord_encode_toOption (i : Instr) : (decodeWord (encode i)).toOption = some i := by
  rw [decodeWord_encode]
  rfl

/-! ### Registers after a command that succeeds (R15) -/

theorem setSched_regValue {r : Reg} (hr : r ≠ .status) (v : Sched) (s : State) :
    (setSched v s).regValue r = s.regValue r := by
  cases r with
  | status => exact absurd rfl hr
  | _ => rfl

theorem completeOk_regValue {r : Reg} (hr : r ≠ .status) (s : State) : (completeOk s).regValue r = s.regValue r := by
  cases r with
  | status => exact absurd rfl hr
  | _ => rfl

theorem setCipher_regValue {r : Reg} (hr : r.inCipher = false) (cs : CipherState) (s : State) :
    (setCipher cs s).regValue r = s.regValue r := by
  cases r with
  | p | s => cases hr
  | _ => rfl

/-- A command that wrote only registers of `D` and the SCHED field, and then completes, succeeds. -/
theorem completeOk_succeeds {D : Reg → Bool} {v : Sched} {s u : State}
    (hstatus : u.status = { s.status with sched := v })
    (hregs : ∀ r, D r = false → r ≠ .status → u.regValue r = s.regValue r) (hhost : HostKept s u) :
    Succeeds D v s (completeOk u) where
  status := by simp [completeOk, hstatus]
  abort := rfl
  regs r hD hr := (completeOk_regValue hr u).trans (hregs r hD hr)
  host := ⟨hhost.program, hhost.schedule, hhost.results, hhost.assertFailed⟩

/-! ### The three commands (R143, R144, R145) -/

theorem exec_init (s : State) : exec .init s = .next (completeOk (setSched .none (setCipher romCipher s))) := rfl

/-- BLK_L and BLK_R take the halves of a block. -/
def setBlk (lr : Word × Word) (s : State) : State := { s with blkL := lr.1, blkR := lr.2 }

theorem exec_encrypt (s : State) :
    exec .encrypt s = .next (completeOk (setBlk (encryptBlock s.cipher s.blkL s.blkR) s)) := rfl

theorem exec_scrub (s : State) : exec .scrub s = .next (completeOk (setSched .none (scrubData s))) := rfl

theorem setBlk_regValue {r : Reg} (hr : r.inBlk = false) (lr : Word × Word) (s : State) :
    (setBlk lr s).regValue r = s.regValue r := by
  cases r with
  | blkL | blkR => cases hr
  | _ => rfl

theorem scrubData_regValue_zero {r : Reg} (hr : r.inScrub = true) (s : State) : (scrubData s).regValue r = 0 := by
  cases r with
  | pww | saltw | dig | textw | refw => exact Vector.getElem_replicate _
  | p i => exact zero_P_get i.isLt
  | s b i => exact zero_S_get b.isLt i.isLt
  | pwlen | blkL | blkR | iter | iterTotal => rfl
  | _ => cases hr

theorem scrubData_regValue_kept {r : Reg} (hr : r.inScrub = false) (s : State) :
    (scrubData s).regValue r = s.regValue r := by
  cases r with
  | id | version | cmd | status | irqEn | errcode | cost | slice => rfl
  | _ => cases hr

theorem ne_status_of_inScrub {r : Reg} (hr : r.inScrub = true) : r ≠ .status := by
  rintro rfl
  cases hr

end Sys2Proof.Machine

open Sys2Proof Sys2Proof.Machine

/-- Settles O19: every round exchanges the halves, and ENCRYPT writes the block alone. -/
theorem encryptOnZeroStateSwaps : Obligations.EncryptOnZeroStateSwaps :=
  ⟨mixF_zero, encryptBlock_zero, fun s => ⟨_, exec_encrypt s, rfl⟩⟩

/-- Settles O22: INIT writes P, S and SCHED, and completes. -/
theorem initLoadsConstantTables : Obligations.InitLoadsConstantTables := by
  refine ⟨decodeWord_encode_toOption .init, fun s => ⟨_, exec_init s, fun _ => rfl, fun _ _ => rfl, rfl, ?_⟩⟩
  refine completeOk_succeeds rfl (fun r hr hstatus => ?_) ⟨rfl, rfl, rfl, rfl⟩
  rw [setSched_regValue hstatus, setCipher_regValue hr]

/-- Settles O23: ENCRYPT writes the two words of the block, and completes with SCHED as it was. -/
theorem encryptTransformsBlock : Obligations.EncryptTransformsBlock := by
  refine ⟨decodeWord_encode_toOption .encrypt, fun s => ⟨_, exec_encrypt s, rfl, rfl, ?_⟩⟩
  exact completeOk_succeeds rfl (fun _ hr _ => setBlk_regValue hr _ s) ⟨rfl, rfl, rfl, rfl⟩

/-- Settles O24: what SCRUB does to a register is `scrubData`, whose registers are 0 or kept. -/
theorem scrubZeroesData : Obligations.ScrubZeroesData := by
  refine ⟨decodeWord_encode_toOption .scrub, fun s => ⟨_, exec_scrub s, fun r hr => ?zeroed, rfl, ?kept⟩⟩
  case zeroed =>
    have hstatus := ne_status_of_inScrub hr
    rw [completeOk_regValue hstatus, setSched_regValue hstatus, scrubData_regValue_zero hr]
  case kept =>
    refine completeOk_succeeds rfl (fun r hr hstatus => ?_) ⟨rfl, rfl, rfl, rfl⟩
    rw [setSched_regValue hstatus, scrubData_regValue_kept hr]
end

section
/-! PROOFS. The key schedule (42_key_schedule.md): the cyclic word stream, the key, XorKey, the Sweep as one loop, and
what the expand commands, EKS_START and one step of EKS_CONTINUE write and leave. -/

namespace Sys2Proof.Machine

/-! ### The cyclic word stream (R171) -/

/-- Four bytes shifted into a zero word one after the other are its bytes, the first the most significant. -/
theorem shiftIn_eq_be32 (b0 b1 b2 b3 : Byte) :
    (((((0 : Word) <<< 8 ||| b0.setWidth 32) <<< 8 ||| b1.setWidth 32) <<< 8 ||| b2.setWidth 32) <<< 8 |||
      b3.setWidth 32) = be32 b0 b1 b2 b3 := by
  apply BitVec.eq_of_getLsbD_eq
  intro i hi
  simp only [be32, BitVec.getLsbD_append, BitVec.getLsbD_or, BitVec.getLsbD_shiftLeft, BitVec.getLsbD_setWidth]
  interval_cases i <;> simp

theorem streamWord_word (d : List Byte) (j : Nat) :
    (streamWord d j).1 =
      be32 (d.getD j 0) (d.getD ((j + 1) % d.length) 0) (d.getD ((j + 2) % d.length) 0)
        (d.getD ((j + 3) % d.length) 0) := by
  simp only [streamWord, streamByte, Nat.mod_add_mod, Nat.add_assoc, Nat.reduceAdd, shiftIn_eq_be32]

/-! ### The key (R172) -/

theorem length_pwb (s : State) : s.pwb.length = 72 := by
  simp [State.pwb]

theorem length_keyBytes (s : State) : s.keyBytes.length = min (s.pwlen.toNat + 1) 72 := by
  simp only [State.keyBytes, List.length_take, List.length_append, List.length_singleton, length_pwb]
  omega

/-- A key byte before the terminator is a password byte. -/
theorem getD_keyBytes_of_lt {s : State} {k : Nat} (hk : k < s.pwlen.toNat) (h72 : k < 72) :
    s.keyBytes.getD k 0 = s.pwb.getD k 0 := by
  have hlen : k < (s.pwb.take s.pwlen.toNat).length := by
    rw [List.length_take, length_pwb]
    omega
  simp only [State.keyBytes, List.getD_eq_getElem?_getD]
  rw [List.getElem?_take_of_lt h72, List.getElem?_append_left hlen, List.getElem?_take_of_lt hk]

theorem getD_keyBytes_terminator {s : State} (h72 : s.pwlen.toNat < 72) : s.keyBytes.getD s.pwlen.toNat 0 = 0x00 := by
  have hlen : (s.pwb.take s.pwlen.toNat).length = s.pwlen.toNat := by
    rw [List.length_take, length_pwb]
    omega
  simp only [State.keyBytes, List.getD_eq_getElem?_getD]
  rw [List.getElem?_take_of_lt h72, List.getElem?_append_right hlen.le, hlen]
  simp

theorem keyBytes_of_pwlen_zero {s : State} (h : s.pwlen = 0) : s.keyBytes = [0x00] := by
  simp [State.keyBytes, h]

/-! ### XorKey (R173, R186) -/

theorem setP_P (cs : CipherState) (i j : Fin 18) (v : Word) :
    (cs.setP i v).P[j] = if i = j then v else cs.P[j] := by
  simp [CipherState.setP, Vector.getElem_set, Fin.ext_iff]

/-- After `k` words of XorKey: the stream stands at position 4k, words 0 to k-1 are mixed, and the rest is as before. -/
structure XorKeyAt (d : List Byte) (cs : CipherState) (k : Nat) (st : CipherState × Nat) : Prop where
  pos : st.2 = 4 * k % d.length
  P : ∀ i : Fin 18, st.1.P[i] = if i.val < k then cs.P[i] ^^^ (streamWord d (4 * i.val % d.length)).1 else cs.P[i]
  S : st.1.S = cs.S

theorem XorKeyAt.step {d : List Byte} {cs : CipherState} {i : Fin 18} {st : CipherState × Nat}
    (h : XorKeyAt d cs i.val st) : XorKeyAt d cs (i.val + 1) (xorKeyWord d st i) where
  pos := by
    simp only [xorKeyWord, streamWord_pos, h.pos, Nat.mod_add_mod]
    rfl
  P j := by
    rw [xorKeyWord, setP_P, h.pos]
    by_cases heq : i = j
    · subst heq
      rw [if_pos rfl, if_pos (Nat.lt_succ_self _), h.P i, if_neg (lt_irrefl _)]
    · have hiff : j.val < i.val + 1 ↔ j.val < i.val := by omega
      rw [if_neg heq, h.P j]
      simp only [hiff]
  S := h.S

theorem xorKey_at (d : List Byte) (cs : CipherState) :
    XorKeyAt d cs 18 ((List.finRange 18).foldl (xorKeyWord d) (cs, 0)) :=
  finRange_foldl_inv 18 _ _ (XorKeyAt d cs) ⟨by simp, fun i => by simp, rfl⟩ fun _ _ h => h.step

theorem xorKey_P (d : List Byte) (cs : CipherState) (i : Fin 18) :
    (xorKey d cs).P[i] = cs.P[i] ^^^ (streamWord d (4 * i.val % d.length)).1 := by
  rw [xorKey, (xorKey_at d cs).P i, if_pos i.isLt]

theorem xorKey_S (d : List Byte) (cs : CipherState) : (xorKey d cs).S = cs.S := by
  rw [xorKey, (xorKey_at d cs).S]

theorem xor_streamWord_zeros (w : Word) (n j : Nat) : w ^^^ (streamWord (List.replicate n 0x00) j).1 = w := by
  rw [streamWord_zeros]
  exact BitVec.xor_zero

/-- A key of zero bytes mixes nothing. -/
theorem xorKey_zeros (n : Nat) (cs : CipherState) : xorKey (List.replicate n 0x00) cs = cs := by
  have hP : (xorKey (List.replicate n 0x00) cs).P = cs.P := by
    ext i hi : 1
    have h := xorKey_P (List.replicate n 0x00) cs ⟨i, hi⟩
    rwa [xor_streamWord_zeros] at h
  have hS := xorKey_S (List.replicate n 0x00) cs
  cases h : xorKey (List.replicate n 0x00) cs
  rw [h] at hP hS
  cases hP
  cases hS
  rfl

/-! ### The Sweep as one loop (R174) -/

/-- The running state after the first `k` of the 521 Encrypts of a Sweep. -/
def sweepRun (salt : Option (List Byte)) (cs : CipherState) (k : Nat) : SweepState :=
  ((List.finRange 521).take k).foldl (sweepPair salt) { cs := cs, l := 0, r := 0, j := 0 }

theorem sweepRun_succ (salt : Option (List Byte)) (cs : CipherState) {k : Nat} (hk : k < 521) :
    sweepRun salt cs (k + 1) = sweepPair salt (sweepRun salt cs k) ⟨k, hk⟩ := by
  simp [sweepRun, List.take_succ_eq_append_getElem, hk]

theorem sweepP_eq_sweepPair (salt : Option (List Byte)) (st : SweepState) (k : Fin 9) :
    sweepP salt st k = sweepPair salt st ⟨k.val, by omega⟩ := by
  simp only [sweepP, sweepPair, CipherState.setPair, dif_pos k.isLt]

theorem sweepS_eq_sweepPair (salt : Option (List Byte)) (b : Fin 4) (st : SweepState) (k : Fin 128) :
    sweepS salt b st k = sweepPair salt st ⟨9 + 128 * b.val + k.val, by omega⟩ := by
  have hbox : (9 + 128 * b.val + k.val - 9) / 128 = b.val := by omega
  have hword : (9 + 128 * b.val + k.val - 9) % 128 = k.val := by omega
  have hS : ¬9 + 128 * b.val + k.val < 9 := by omega
  simp only [sweepS, sweepPair, CipherState.setPair, dif_neg hS, hbox, hword]

theorem sweepP_loop_eq_sweepRun (salt : Option (List Byte)) (cs : CipherState) :
    (List.finRange 9).foldl (sweepP salt) { cs := cs, l := 0, r := 0, j := 0 } = sweepRun salt cs 9 := by
  refine finRange_foldl_inv 9 _ _ (fun k st => st = sweepRun salt cs k) rfl ?step
  rintro k _ rfl
  rw [sweepP_eq_sweepPair, sweepRun_succ]

theorem sweepBox_sweepRun (salt : Option (List Byte)) (cs : CipherState) (b : Fin 4) :
    sweepBox salt (sweepRun salt cs (9 + 128 * b.val)) b = sweepRun salt cs (9 + 128 * (b.val + 1)) := by
  refine finRange_foldl_inv 128 _ _ (fun k st => st = sweepRun salt cs (9 + 128 * b.val + k)) rfl ?step
  rintro k _ rfl
  rw [sweepS_eq_sweepPair, ← Nat.add_assoc, sweepRun_succ]

theorem sweep_eq_sweepRun (salt : Option (List Byte)) (cs : CipherState) : sweep salt cs = (sweepRun salt cs 521).cs := by
  have hboxes : (List.finRange 4).foldl (sweepBox salt) (sweepRun salt cs 9) = sweepRun salt cs 521 := by
    refine finRange_foldl_inv 4 _ _ (fun b st => st = sweepRun salt cs (9 + 128 * b)) rfl ?step
    rintro b _ rfl
    exact sweepBox_sweepRun salt cs b
  rw [sweep, sweepP_loop_eq_sweepRun, hboxes]

theorem sweepRun_all (salt : Option (List Byte)) (cs : CipherState) :
    sweepRun salt cs 521 = (List.finRange 521).foldl (sweepPair salt) { cs := cs, l := 0, r := 0, j := 0 } := by
  rw [sweepRun, List.take_of_length_le (by simp)]

/-! ### A salt of zero bytes (R175) -/

/-- A Sweep's running state without its stream position, which an unsalted Sweep never moves. -/
def SweepState.dropPos (st : SweepState) : SweepState := { st with j := 0 }

@[simp] theorem SweepState.dropPos_cs (st : SweepState) : st.dropPos.cs = st.cs := rfl

theorem sweepPair_none_dropPos (n : Nat) (st : SweepState) (k : Fin 521) :
    sweepPair none st.dropPos k = (sweepPair (some (List.replicate n 0x00)) st k).dropPos := by
  simp only [sweepPair, encryptPair, mixSalt, SweepState.dropPos, xor_streamWord_zeros]

theorem dropPos_sweepRun_zeros (n : Nat) (cs : CipherState) {k : Nat} (hk : k ≤ 521) :
    (sweepRun (some (List.replicate n 0x00)) cs k).dropPos = sweepRun none cs k := by
  induction k with
  | zero => rfl
  | succ k ih => rw [sweepRun_succ _ _ hk, sweepRun_succ _ _ hk, ← ih (Nat.le_of_succ_le hk), sweepPair_none_dropPos]

/-- Zero stream words leave the running pair, so a Sweep salted with zero bytes writes what the unsalted one writes. -/
theorem sweep_zeros (n : Nat) (cs : CipherState) : sweep (some (List.replicate n 0x00)) cs = sweep none cs := by
  rw [sweep_eq_sweepRun, sweep_eq_sweepRun, ← dropPos_sweepRun_zeros n cs le_rfl, SweepState.dropPos_cs]

theorem saltb_of_zeros {s : State} (h : s.saltw = Vector.replicate 4 0) : s.saltb = List.replicate 16 0x00 := by
  rw [State.saltb, h]
  rfl

/-! ### EXPAND_SALTED, EXPAND_KEY and EXPAND_SALT (R175 to R177) -/

theorem exec_expandSalted (s : State) :
    exec .expandSalted s = .next (completeOk (setSched .none (setCipher (expandSalted s.keyBytes s.saltb s.cipher) s))) :=
  rfl

theorem exec_expandKey (s : State) :
    exec .expandKey s = .next (completeOk (setSched .none (setCipher (expandPlain s.keyBytes s.cipher) s))) := rfl

theorem exec_expandSalt (s : State) :
    exec .expandSalt s = .next (completeOk (setSched .none (setCipher (expandPlain s.saltb s.cipher) s))) := rfl

/-- Writing P and S, breaking the schedule and completing is a success that wrote no other register. -/
theorem completeOk_setCipher_succeeds (cs : CipherState) (s : State) :
    Succeeds Reg.inCipher .none s (completeOk (setSched .none (setCipher cs s))) := by
  refine completeOk_succeeds rfl (fun r hr hstatus => ?_) ⟨rfl, rfl, rfl, rfl⟩
  rw [setSched_regValue hstatus, setCipher_regValue hr]

/-! ### EKS_START (R180) -/

theorem exec_eksStart_legal {s : State} (h : costOk s.cost = true) :
    exec .eksStart s = .next (completeOk (startSchedule s)) :=
  if_pos h

theorem exec_eksStart_illegal {s : State} (h : ¬costOk s.cost = true) :
    exec .eksStart s = .next (raiseError .costDomain s) :=
  if_neg h

/-- Of the registers, the start of a schedule writes P, S, ITER, ITER_TOTAL and the SCHED field. -/
theorem startSchedule_regValue {r : Reg} (hr : (r.inCipher || r == .iter || r == .iterTotal) = false)
    (hstatus : r ≠ .status) (s : State) : (startSchedule s).regValue r = s.regValue r := by
  rw [startSchedule, setSched_regValue hstatus]
  cases r with
  | p | s | iter | iterTotal => cases hr
  | _ => rfl

/-! ### One step of EKS_CONTINUE (R178, R181, R182) -/

theorem exec_eksContinue_sequence {s : State} (hphase : s.phase = .start) (hsched : s.status.sched ≠ .active) :
    exec .eksContinue s = .next (raiseError .sequence s) := by
  simp only [exec, execEksContinue, hphase, if_neg hsched]

theorem exec_eksContinue_loop {s : State} (h : s.phase = .loop ∨ (s.phase = .start ∧ s.status.sched = .active)) :
    exec .eksContinue s = .next (eksLoop s) := by
  rcases h with hphase | ⟨hphase, hsched⟩
  · simp only [exec, execEksContinue, hphase]
  · simp only [exec, execEksContinue, hphase, if_pos hsched]

/-- What one iteration of EKS_CONTINUE does to a field it treats alike in the three ways it can end. -/
theorem eksLoop_cases {motive : State → Prop} (s : State) (yields : motive { iterate s with phase := .loop })
    (aborts : motive (abortAtBoundary (markBoundary (iterate s))))
    (completes : motive (completeOk (markBoundary (iterate s)))) : motive (eksLoop s) := by
  obtain ⟨hyield, habort, hcomplete⟩ := eksLoop_eq s
  by_cases hends : s.endsSlice
  · cases ha : s.abortReq with
    | true => rwa [habort hends ha]
    | false => rwa [hcomplete hends ha]
  · rwa [hyield hends]

theorem eksLoop_iter (s : State) : (eksLoop s).iter = s.iter + 1 :=
  eksLoop_cases (motive := fun t => t.iter = s.iter + 1) s rfl rfl rfl

theorem eksLoop_host (s : State) : HostKept s (eksLoop s) :=
  eksLoop_cases s ⟨rfl, rfl, rfl, rfl⟩ ⟨rfl, rfl, rfl, rfl⟩ ⟨rfl, rfl, rfl, rfl⟩

/-- Of the registers, one iteration of EKS_CONTINUE writes P, S, STATUS, ERRCODE and ITER alone. -/
theorem eksLoop_regValue {r : Reg} (hr : r.inCipher = false) (hkept : r ∉ [Reg.status, .errcode, .iter]) (s : State) :
    (eksLoop s).regValue r = s.regValue r := by
  refine eksLoop_cases (motive := fun t => t.regValue r = s.regValue r) s ?yields ?aborts ?completes
  all_goals
    cases r with
    | p | s => cases hr
    | status | errcode | iter => exact absurd (by decide) hkept
    | _ => rfl

end Sys2Proof.Machine

open Sys2Proof Sys2Proof.Machine

/-- Settles O25: the word is four bytes shifted in, and each byte moves the position on by one. -/
theorem streamWordIsCyclic : Obligations.StreamWordIsCyclic := fun d j _ =>
  Prod.ext (streamWord_word d j) (streamWord_pos d j)

/-- Settles O26: a byte before the terminator is one of PWB, and PWB is packed as R33 says. -/
theorem keyBytesTerminatedAndTruncated : Obligations.KeyBytesTerminatedAndTruncated := by
  intro s _
  refine ⟨length_keyBytes s, fun k hk => ?_, getD_keyBytes_terminator⟩
  have hword : k.val / 4 < 18 := by omega
  rw [getD_keyBytes_of_lt hk k.isLt, State.pwb, getD_bytesOfWords]
  simp [List.getD, hword]

/-- Settles O27: the walk over the P-box reads 4 stream bytes per word and never writes S. -/
theorem xorKeyMixesCyclicStream : Obligations.XorKeyMixesCyclicStream := fun d cs _ =>
  ⟨xorKey_P d cs, xorKey_S d cs⟩

/-- Settles O28: the key is the one byte 0x00, a stream of zero bytes. -/
theorem emptyPasswordMixesNothing : Obligations.EmptyPasswordMixesNothing := by
  intro s cs hpwlen
  rw [keyBytes_of_pwlen_zero hpwlen]
  refine ⟨rfl, fun j _ => Prod.ext (streamWord_zeros 1 j) ?_, xorKey_zeros 1 cs⟩
  rw [streamWord_pos]
  exact Nat.mod_one _

/-- Settles O29: the P part runs the first 9 positions and box b the 128 from 9 + 128 * b. -/
theorem sweepIsOneLoopOf521Encrypts : Obligations.SweepIsOneLoopOf521Encrypts := by
  intro salt cs
  rw [sweep_eq_sweepRun, sweepRun_all]

/-- Settles O30: each command is one XorKey and one Sweep; zero salt words and a zero key byte mix nothing. -/
theorem expandCommandsRunOnePass : Obligations.ExpandCommandsRunOnePass := by
  refine ⟨decodeWord_encode_toOption .expandSalted, decodeWord_encode_toOption .expandKey,
    decodeWord_encode_toOption .expandSalt, fun s => ?_⟩
  refine ⟨⟨_, exec_expandSalted s, rfl, rfl, completeOk_setCipher_succeeds _ s⟩,
    ⟨_, exec_expandKey s, rfl, rfl, completeOk_setCipher_succeeds _ s⟩,
    ⟨_, exec_expandSalt s, rfl, rfl, completeOk_setCipher_succeeds _ s⟩,
    fun hsalt => ?zeroSalt, fun hpwlen => ?noKey⟩
  case zeroSalt =>
    rw [exec_expandSalted, exec_expandKey, expandSalted, expandPlain, saltb_of_zeros hsalt, sweep_zeros]
  case noKey =>
    rw [keyBytes_of_pwlen_zero hpwlen]
    exact xorKey_zeros 1 s.cipher

/-- Settles O31, along the legal and the illegal costs. -/
theorem eksStartBeginsSchedule : Obligations.EksStartBeginsSchedule := by
  refine ⟨decodeWord_encode_toOption .eksStart, fun s => ⟨fun hlow hhigh => ?legal, fun hcost => ?illegal⟩⟩
  case legal =>
    refine ⟨_, exec_eksStart_legal ((costOk_iff _).mpr ⟨hlow, hhigh⟩), rfl, rfl, total_toNat hhigh, rfl, ?_⟩
    exact completeOk_succeeds rfl (fun _ hr hstatus => startSchedule_regValue hr hstatus s) ⟨rfl, rfl, rfl, rfl⟩
  case illegal =>
    have hbad : ¬costOk s.cost = true := by
      rw [costOk_iff]
      omega
    exact ⟨_, exec_eksStart_illegal hbad, raiseError_fails .costDomain s⟩

/-- Settles O32: at START without a schedule the step fails, otherwise it is `eksLoop`, which ends in three ways. -/
theorem eksContinueStep : Obligations.EksContinueStep := by
  refine ⟨decodeWord_encode_toOption .eksContinue, fun s => ⟨fun hphase hsched => ?sequence, fun hrun => ?loop⟩⟩
  case sequence => exact ⟨_, exec_eksContinue_sequence hphase hsched, raiseError_fails .sequence s⟩
  case loop =>
    obtain ⟨hyield, habort, hcomplete⟩ := eksLoop_eq s
    refine ⟨_, exec_eksContinue_loop hrun, eksLoop_iter s, eksLoop_host s,
      fun _ hr hkept => eksLoop_regValue hr hkept s, fun hoff => ?yields,
      fun hends ha => ?completes, fun hends ha => ?aborts⟩
    case yields =>
      rw [hyield hoff]
      exact ⟨rfl, rfl, rfl, rfl, rfl, rfl, rfl⟩
    case completes =>
      rw [hcomplete hends ha]
      exact ⟨rfl, rfl, rfl, rfl, rfl⟩
    case aborts =>
      rw [habort hends ha]
      exact ⟨rfl, rfl, rfl, rfl, rfl⟩
end

section
/-! PROOFS. The chain unit (43_hashing.md): the three blocks of the chain, CHAIN64, the comparison of fixed length, and
where ABORT acts. -/

namespace Sys2Proof.Machine

/-! ### The chain (R211) -/

/-- The two words of block `k` of the chain. -/
def blockPair (k : Fin 3) (ws : Vector Word 6) : Word × Word := (ws[2 * k.val], ws[2 * k.val + 1])

/-- Encrypt on a pair of words. -/
def encryptWords (cs : CipherState) (lr : Word × Word) : Word × Word := encryptBlock cs lr.1 lr.2

/-- The step of one block writes that block's two words and no other. -/
theorem blockPair_chainBlock (cs : CipherState) (ws : Vector Word 6) (i k : Fin 3) :
    blockPair k (chainBlock cs ws i) = if k = i then encryptWords cs (blockPair k ws) else blockPair k ws := by
  split_ifs with heq
  · subst heq
    simp [blockPair, chainBlock, encryptWords]
  · have hleft : 2 * i.val ≠ 2 * k.val ∧ 2 * i.val ≠ 2 * k.val + 1 := by omega
    have hright : 2 * i.val + 1 ≠ 2 * k.val ∧ 2 * i.val + 1 ≠ 2 * k.val + 1 := by omega
    simp [blockPair, chainBlock, hleft, hright]

/-- One pass encrypts each block once, on its own. -/
theorem blockPair_chainPass (cs : CipherState) (k : Fin 3) (ws : Vector Word 6) :
    blockPair k (chainPass cs ws) = encryptWords cs (blockPair k ws) := by
  have hdone := finRange_foldl_inv 3 (chainBlock cs) ws
    (fun n x => blockPair k x = if k.val < n then encryptWords cs (blockPair k ws) else blockPair k ws) rfl ?step
  case step =>
    intro i x hx
    rw [blockPair_chainBlock, hx]
    by_cases heq : k = i
    · subst heq
      rw [if_pos rfl, if_pos (Nat.lt_succ_self _), if_neg (lt_irrefl _)]
    · have hiff : k.val < i.val + 1 ↔ k.val < i.val := by omega
      simp only [if_neg heq, hiff]
  rwa [if_pos k.isLt] at hdone

theorem blockPair_chain64 (cs : CipherState) (k : Fin 3) :
    blockPair k (chain64 cs) = (encryptWords cs)^[64] (blockPair k chainPhrase) := by
  have hpass : Function.Semiconj (blockPair k) (chainPass cs) (encryptWords cs) := blockPair_chainPass cs k
  unfold chain64
  exact hpass.iterate_right 64 chainPhrase

theorem chain_eq_of_blockPair_eq {ws vs : Vector Word 6} (h : ∀ k, blockPair k ws = blockPair k vs) : ws = vs := by
  ext i hi : 1
  obtain ⟨k, rfl | rfl⟩ := Nat.even_or_odd' i
  · exact congrArg Prod.fst (h ⟨k, by omega⟩)
  · exact congrArg Prod.snd (h ⟨k, by omega⟩)

/-- The 64 Encrypts of a block exchange its halves an even number of times. -/
theorem chain64_zero : chain64 CipherState.zero = chainPhrase := by
  have hswap : encryptWords CipherState.zero = Prod.swap := funext fun lr => encryptBlock_zero lr.1 lr.2
  have hinv : Function.Involutive (Prod.swap : Word × Word → Word × Word) := Prod.swap_swap
  refine chain_eq_of_blockPair_eq fun k => ?_
  rw [blockPair_chain64, hswap, hinv.iterate_even (by decide), id]

/-! ### CHAIN64 (R212) -/

/-- DIG takes the given words. -/
def setDig (ws : Vector Word 6) (s : State) : State := { s with dig := ws }

theorem exec_chain64 (s : State) : exec .chain64 s = .next (completeOk (setDig (chain64 s.cipher) s)) := rfl

theorem setDig_regValue {r : Reg} (hr : r.inDig = false) (ws : Vector Word 6) (s : State) :
    (setDig ws s).regValue r = s.regValue r := by
  cases r with
  | dig => cases hr
  | _ => rfl

/-! ### FixedEq (R215) -/

/-- The difference gathered over some positions is 0 when it began as 0 and the strings agree at each of them. -/
theorem gatheredDiff_eq_zero_iff (a b : List Byte) (ks : List Nat) (d : Byte) :
    ks.foldl (fun d k => d ||| (a.getD k 0 ^^^ b.getD k 0)) d = 0 ↔
      d = 0 ∧ ∀ k ∈ ks, a.getD k 0 = b.getD k 0 := by
  induction ks generalizing d with
  | nil => simp
  | cons k ks ih =>
    have hstep : d ||| (a.getD k 0 ^^^ b.getD k 0) = 0 ↔ d = 0 ∧ a.getD k 0 = b.getD k 0 :=
      BitVec.or_eq_zero_iff.trans (and_congr_right' BitVec.xor_eq_zero_iff)
    rw [List.foldl_cons, ih, hstep, List.forall_mem_cons, and_assoc]

/-! ### Where an abort acts (R216) -/

theorem exec_abort (s : State) : exec .abort s = .next (completeOk s) := rfl

theorem issueBusy_abort (s : State) : issueBusy (encode .abort) s = { s with abortReq := true } := if_pos rfl

/-- HASH and VERIFY share their LOOP step (R213, R214). -/
theorem exec_hashVerify_loop {i : Instr} (hi : i = .hash ∨ i = .verify) {s : State} (hphase : s.phase = .loop) :
    exec i s = .next (hashLoop s) := by
  rcases hi with rfl | rfl
  · simp only [exec, execHash, hphase]
  · simp only [exec, execVerify, hphase]

theorem exec_hash_finish {s : State} (hphase : s.phase = .finish) :
    exec .hash s = .next (completeOk (hashFinish s)) := by
  simp only [exec, execHash, hphase]

theorem exec_verify_finish {s : State} (hphase : s.phase = .finish) :
    exec .verify s = .next (completeOk (setMatch (hashFinish s))) := by
  simp only [exec, execVerify, hphase]

/-- A command of one engine step ends in it, with success or failure, and both clear the request unread. -/
theorem exec_abortReq_of_oneStep {i : Instr} (hi : i ∉ [Instr.eksContinue, .hash, .verify]) (s : State) (a b : Bool) :
    exec i { s with abortReq := a } = exec i { s with abortReq := b } := by
  cases i with
  | eksContinue | hash | verify => exact absurd (by decide) hi
  | _ => rfl

/-- The FINISH step of HASH and VERIFY completes, and so clears the request unread. -/
theorem exec_abortReq_of_finish {i : Instr} (hi : i = .hash ∨ i = .verify) {s : State} (hphase : s.phase = .finish)
    (a b : Bool) : exec i { s with abortReq := a } = exec i { s with abortReq := b } := by
  have hfinish (c : Bool) : ({ s with abortReq := c } : State).phase = .finish := hphase
  rcases hi with rfl | rfl
  · rw [exec_hash_finish (hfinish a), exec_hash_finish (hfinish b)]
    rfl
  · rw [exec_verify_finish (hfinish a), exec_verify_finish (hfinish b)]
    rfl

/-- The step of the last iteration of a slice ends with ABORTED when an abort is pending (R182). -/
theorem exec_aborts {i : Instr} (hi : i ∈ [Instr.eksContinue, .hash, .verify]) {s : State} (hphase : s.phase = .loop)
    (habort : s.abortReq = true) (hends : s.endsSlice) :
    exec i s = .next (abortAtBoundary (markBoundary (iterate s))) := by
  rcases List.mem_cons.mp hi with rfl | hhash
  · rw [exec_eksContinue_loop (.inl hphase), (eksLoop_eq s).2.1 hends habort]
  · rw [exec_hashVerify_loop (by simpa using hhash) hphase, (hashLoop_eq s).2.1 hends habort]

end Sys2Proof.Machine

open Sys2Proof Sys2Proof.Machine

/-- Settles O36: a pass acts on each block's pair by one Encrypt, so 64 passes act by 64. -/
theorem chainBlocksAreIndependent : Obligations.ChainBlocksAreIndependent :=
  ⟨rfl, by decide, blockPair_chain64⟩

/-- Settles O37: CHAIN64 writes DIG alone, and completes with SCHED as it was. -/
theorem chain64WritesDigest : Obligations.Chain64WritesDigest := by
  refine ⟨decodeWord_encode_toOption .chain64, chain64_zero, fun s => ⟨_, exec_chain64 s, fun _ => rfl, rfl, ?_⟩⟩
  exact completeOk_succeeds rfl (fun _ hr _ => setDig_regValue hr _ s) ⟨rfl, rfl, rfl, rfl⟩

/-- Settles O38: the gathered difference is 0 exactly when each position's is. -/
theorem fixedEqIsEquality : Obligations.FixedEqIsEquality := by
  intro a b n
  rw [fixedEq, beq_iff_eq, gatheredDiff_eq_zero_iff]
  simp

/-- Settles O44, along the four places an abort can meet the machine. -/
theorem abortActsOnlyAtBoundary : Obligations.AbortActsOnlyAtBoundary := by
  refine ⟨decodeWord_encode_toOption .abort, fun s => ⟨?idle, fun hbusy => ?busy, fun i hi => ?noBoundary,
    fun i hi hphase habort hends => ?boundary⟩⟩
  case idle => exact ⟨_, exec_abort s, rfl, completeOk_succeeds rfl (fun _ _ _ => rfl) ⟨rfl, rfl, rfl, rfl⟩⟩
  case busy => exact (hostWrite_busy hbusy .cmd _).trans (issueBusy_abort s)
  case noBoundary =>
    by_cases hsteps : i ∈ [Instr.eksContinue, .hash, .verify]
    · obtain ⟨heks, hphase⟩ := hi.resolve_left (not_not_intro hsteps)
      have hhash : i = .hash ∨ i = .verify := by simpa [heks] using hsteps
      exact exec_abortReq_of_finish hhash hphase true false
    · exact exec_abortReq_of_oneStep hsteps s true false
  case boundary => exact ⟨_, exec_aborts hi hphase habort hends, rfl, rfl, rfl, rfl, rfl, rfl⟩
end

section
/-! PROOFS. The base64 unit (44_base64.md): the alphabet, the field check, encoding and decoding as inverse changes of
digits, and what the four commands write and leave. -/

namespace Sys2Proof.Machine

/-! ### The alphabet (R240) -/

theorem alpha_upper {v : Nat} (hlow : 2 ≤ v) (hhigh : v ≤ 27) : alpha v = BitVec.ofNat 8 (0x3F + v) := by
  rw [alpha, if_neg (by omega), if_neg (by omega), if_pos hhigh]

theorem alpha_lower {v : Nat} (hlow : 28 ≤ v) (hhigh : v ≤ 53) : alpha v = BitVec.ofNat 8 (0x45 + v) := by
  rw [alpha, if_neg (by omega), if_neg (by omega), if_neg (by omega), if_pos hhigh]

theorem alpha_digit {v : Nat} (hlow : 54 ≤ v) : alpha v = BitVec.ofNat 8 (v - 0x06) := by
  rw [alpha, if_neg (by omega), if_neg (by omega), if_neg (by omega), if_neg (by omega)]

/-- The 64 characters, each evaluated. -/
theorem indexOf_alpha : ∀ v, v < 64 → indexOf (alpha v) = some v := by decide

/-- Along the ranges of Index: each is moved by a constant into a range of Alpha, which moves it back. -/
theorem alpha_of_indexOf {c : Byte} {v : Nat} (h : indexOf c = some v) : v < 64 ∧ alpha v = c := by
  have back {a k : Nat} (hk : a = c.toNat) (hv : some k = some v) (hlt : k < 64)
      (halpha : alpha k = BitVec.ofNat 8 a) : v < 64 ∧ alpha v = c := by
    cases hv
    exact ⟨hlt, by rw [halpha, hk, BitVec.ofNat_toNat, BitVec.setWidth_eq]⟩
  unfold indexOf at h
  split_ifs at h with hdot hslash hupper hlower hdigit
  · exact back (congrArg BitVec.toNat hdot.symm) h (by decide) rfl
  · exact back (congrArg BitVec.toNat hslash.symm) h (by decide) rfl
  · simp only [BitVec.le_def, BitVec.reduceToNat] at hupper
    exact back (by omega) h (by omega) (alpha_upper (by omega) (by omega))
  · simp only [BitVec.le_def, BitVec.reduceToNat] at hlower
    exact back (by omega) h (by omega) (alpha_lower (by omega) (by omega))
  · simp only [BitVec.le_def, BitVec.reduceToNat] at hdigit
    exact back (by omega) h (by omega) (alpha_digit (by omega))

theorem indexOf_eq_some_iff {c : Byte} {v : Nat} : indexOf c = some v ↔ v < 64 ∧ alpha v = c := by
  refine ⟨alpha_of_indexOf, ?_⟩
  rintro ⟨hv, rfl⟩
  exact indexOf_alpha v hv

/-! ### The indices of a field and its check (R242 to R244) -/

theorem indicesOf_cons {c : Byte} {cs : List Byte} {v : Nat} {vs : List Nat} (hc : indexOf c = some v)
    (hcs : indicesOf cs = some vs) : indicesOf (c :: cs) = some (v :: vs) := by
  simp only [indicesOf, hc, hcs]

theorem indicesOf_cons_some {c : Byte} {cs : List Byte} {ws : List Nat} (h : indicesOf (c :: cs) = some ws) :
    ∃ v vs, indexOf c = some v ∧ indicesOf cs = some vs ∧ ws = v :: vs := by
  simp only [indicesOf] at h
  split at h
  next v vs hc hcs =>
    cases h
    exact ⟨v, vs, hc, hcs, rfl⟩
  next => cases h

theorem indicesOf_map_alpha {vs : List Nat} (h : ∀ v ∈ vs, v < 64) : indicesOf (vs.map alpha) = some vs := by
  induction vs with
  | nil => rfl
  | cons v vs ih =>
    obtain ⟨hv, hvs⟩ := List.forall_mem_cons.mp h
    exact indicesOf_cons (indexOf_alpha v hv) (ih hvs)

theorem map_alpha_of_indicesOf {t : List Byte} {vs : List Nat} (h : indicesOf t = some vs) :
    (∀ v ∈ vs, v < 64) ∧ vs.map alpha = t := by
  induction t generalizing vs with
  | nil =>
    cases h
    exact ⟨List.forall_mem_nil _, rfl⟩
  | cons c cs ih =>
    obtain ⟨v, ws, hc, hcs, rfl⟩ := indicesOf_cons_some h
    obtain ⟨hv, rfl⟩ := alpha_of_indexOf hc
    obtain ⟨hws, rfl⟩ := ih hcs
    exact ⟨List.forall_mem_cons.mpr ⟨hv, hws⟩, rfl⟩

theorem indicesOf_eq_some_iff {t : List Byte} {vs : List Nat} :
    indicesOf t = some vs ↔ (∀ v ∈ vs, v < 64) ∧ vs.map alpha = t := by
  refine ⟨map_alpha_of_indicesOf, ?_⟩
  rintro ⟨hvs, rfl⟩
  exact indicesOf_map_alpha hvs

theorem exists_indicesOf {t : List Byte} (h : ∀ x ∈ t, (indexOf x).isSome = true) : ∃ vs, indicesOf t = some vs := by
  induction t with
  | nil => exact ⟨[], rfl⟩
  | cons c cs ih =>
    obtain ⟨hc, hcs⟩ := List.forall_mem_cons.mp h
    obtain ⟨v, hv⟩ := Option.isSome_iff_exists.mp hc
    obtain ⟨vs, hvs⟩ := ih hcs
    exact ⟨v :: vs, indicesOf_cons hv hvs⟩

theorem fieldIndices_eq_some_iff {t : List Byte} {pad : Nat} {vs : List Nat} :
    fieldIndices t pad = some vs ↔ indicesOf t = some vs ∧ vs.getLastD 0 % 2 ^ pad = 0 := by
  refine ⟨fieldIndices_some, fun ⟨hvs, hlast⟩ => ?_⟩
  simp only [fieldIndices, hvs, if_pos hlast]

theorem fieldOk_iff {t : List Byte} {pad : Nat} : fieldOk t pad = true ↔ ∃ vs, fieldIndices t pad = some vs :=
  Option.isSome_iff_exists

theorem fieldIndices_eq_none {t : List Byte} {pad : Nat} (h : fieldOk t pad = false) : fieldIndices t pad = none :=
  Option.isNone_iff_eq_none.mp (Option.isSome_eq_false_iff.mp h)

theorem b64Dec_of_fieldIndices {t : List Byte} {pad : Nat} {vs : List Nat} (h : fieldIndices t pad = some vs)
    (n : Nat) : b64Dec t n = some (decodeIndices n vs) := by
  rw [b64Dec, (fieldIndices_some h).1, Option.map_some]

/-- After characters of the alphabet the check is one of the last character alone. -/
theorem fieldOk_append_singleton {t : List Byte} (h : ∀ x ∈ t, (indexOf x).isSome = true) (c : Byte) (pad : Nat) :
    fieldOk (t ++ [c]) pad = true ↔ ∃ v, indexOf c = some v ∧ v % 2 ^ pad = 0 := by
  obtain ⟨vs, hvs⟩ := exists_indicesOf h
  obtain ⟨hlt, rfl⟩ := map_alpha_of_indicesOf hvs
  simp only [fieldOk_iff, fieldIndices_eq_some_iff]
  constructor
  · rintro ⟨ws, hws, hlast⟩
    obtain ⟨hwlt, hmap⟩ := map_alpha_of_indicesOf hws
    obtain ⟨us, _, rfl, -, hc⟩ := List.map_eq_append_iff.mp hmap
    obtain ⟨v, rfl, rfl⟩ := List.map_eq_singleton_iff.mp hc
    exact ⟨v, indexOf_alpha v (hwlt v (by simp)), by simpa using hlast⟩
  · rintro ⟨v, hv, hlast⟩
    obtain ⟨hvlt, rfl⟩ := alpha_of_indexOf hv
    refine ⟨vs ++ [v], indicesOf_eq_some_iff.mpr ⟨?_, by simp⟩, by simpa using hlast⟩
    simpa [or_imp, forall_and] using ⟨hlt, hvlt⟩

/-- The valid last characters, in the order of their indices (R244). -/
def lastCharacters (pad : Nat) : List Byte := ((List.range 64).filter fun v => v % 2 ^ pad = 0).map alpha

theorem mem_lastCharacters_iff {c : Byte} {pad : Nat} :
    c ∈ lastCharacters pad ↔ ∃ v, indexOf c = some v ∧ v % 2 ^ pad = 0 := by
  simp only [lastCharacters, List.mem_map, List.mem_filter, List.mem_range, decide_eq_true_eq, indexOf_eq_some_iff,
    and_right_comm]

/-! ### Digits of a padded number (R241, R242) -/

/-- The last digit is the number modulo the base. -/
theorem ofDigits_mod_base (base : Nat) (ds : List Nat) : ofDigits base ds % base = ds.getLastD 0 % base := by
  induction ds using List.reverseRecOn with
  | nil => rfl
  | append_singleton ds d _ => rw [ofDigits_append, Nat.mul_add_mod_self_right, List.getLastD_concat]

/-- The number whose digits are the bytes. -/
def bytesValue (b : List Byte) : Nat := ofDigits 256 (b.map BitVec.toNat)

/-- The `n` lowest bytes of a number, most significant first. -/
def valueBytes (n v : Nat) : List Byte := (toDigits 256 n v).map (BitVec.ofNat 8)

theorem byte_digits_lt {b : List Byte} : ∀ d ∈ b.map BitVec.toNat, d < 256 :=
  List.forall_mem_map.mpr fun x _ => x.isLt

theorem bytesValue_lt (b : List Byte) : bytesValue b < 256 ^ b.length := by
  simpa [bytesValue] using ofDigits_lt _ (byte_digits_lt (b := b))

theorem valueBytes_bytesValue (b : List Byte) : valueBytes b.length (bytesValue b) = b := by
  have h := toDigits_ofDigits _ (byte_digits_lt (b := b))
  rw [List.length_map] at h
  rw [valueBytes, bytesValue, h, List.map_map]
  simp [Function.comp_def]

theorem bytesValue_valueBytes {n v : Nat} (h : v < 256 ^ n) : bytesValue (valueBytes n v) = v := by
  have hbyte : ∀ d ∈ toDigits 256 n v, (BitVec.toNat ∘ BitVec.ofNat 8) d = d := fun d hd =>
    Nat.mod_eq_of_lt (toDigits_lt (by decide) hd)
  rw [bytesValue, valueBytes, List.map_map, List.map_congr_left hbyte, List.map_id', ofDigits_toDigits h]

/-- The number of characters of an encoded field of `n` bytes. -/
def fieldLength (n : Nat) : Nat := (8 * n + 5) / 6

/-- The number of zero bits after `n` bytes that fill its last character. -/
def padBits (n : Nat) : Nat := 6 * fieldLength n - 8 * n

theorem padBits_le (n : Nat) : padBits n ≤ 6 := by
  simp only [padBits, fieldLength]
  omega

/-- The bits of the field are those of the bytes and the padding. -/
theorem field_pow (n : Nat) : 64 ^ fieldLength n = 2 ^ padBits n * 256 ^ n := by
  have hbits : 6 * fieldLength n = padBits n + 8 * n := by
    simp only [padBits, fieldLength]
    omega
  calc 64 ^ fieldLength n = 2 ^ (6 * fieldLength n) := (Nat.pow_mul 2 6 _).symm
    _ = 2 ^ padBits n * 2 ^ (8 * n) := by rw [hbits, Nat.pow_add]
    _ = 2 ^ padBits n * 256 ^ n := by rw [Nat.pow_mul]

/-- The indices of the characters that encode `b` (R241). -/
def encodeIndices (b : List Byte) : List Nat :=
  toDigits 64 (fieldLength b.length) (bytesValue b * 2 ^ padBits b.length)

theorem b64Enc_eq (b : List Byte) : b64Enc b = (encodeIndices b).map alpha := rfl

theorem length_encodeIndices (b : List Byte) : (encodeIndices b).length = fieldLength b.length :=
  length_toDigits _ _ _

theorem decodeIndices_eq {n : Nat} {vs : List Nat} (h : vs.length = fieldLength n) :
    decodeIndices n vs = valueBytes n (ofDigits 64 vs / 2 ^ padBits n) := by
  rw [decodeIndices, h, valueBytes, padBits]

/-- The padding lies within the last index. -/
theorem ofDigits_mod_pad (n : Nat) (vs : List Nat) :
    ofDigits 64 vs % 2 ^ padBits n = vs.getLastD 0 % 2 ^ padBits n := by
  have hdvd : 2 ^ padBits n ∣ 64 := pow_dvd_pow 2 (padBits_le n)
  rw [← Nat.mod_mod_of_dvd _ hdvd, ofDigits_mod_base, Nat.mod_mod_of_dvd _ hdvd]

theorem indicesOf_b64Enc (b : List Byte) : indicesOf (b64Enc b) = some (encodeIndices b) :=
  indicesOf_map_alpha fun _ => toDigits_lt (by decide)

theorem ofDigits_encodeIndices (b : List Byte) :
    ofDigits 64 (encodeIndices b) = bytesValue b * 2 ^ padBits b.length := by
  refine ofDigits_toDigits ?_
  rw [field_pow, Nat.mul_comm]
  exact Nat.mul_lt_mul_of_pos_left (bytesValue_lt b) (Nat.two_pow_pos _)

/-! ### Encoding and decoding are inverse (R249) -/

/-- An encoded field passes the check. -/
theorem fieldIndices_b64Enc (b : List Byte) :
    fieldIndices (b64Enc b) (padBits b.length) = some (encodeIndices b) := by
  refine fieldIndices_eq_some_iff.mpr ⟨indicesOf_b64Enc b, ?_⟩
  rw [← ofDigits_mod_pad, ofDigits_encodeIndices, Nat.mul_mod_left]

theorem decodeIndices_encodeIndices (b : List Byte) : decodeIndices b.length (encodeIndices b) = b := by
  rw [decodeIndices_eq (length_encodeIndices b), ofDigits_encodeIndices, Nat.mul_div_cancel _ (Nat.two_pow_pos _),
    valueBytes_bytesValue]

/-- Dropping the padding of a field that passes the check loses nothing, so encoding restores the field. -/
theorem b64Enc_decodeIndices {n : Nat} {t : List Byte} {vs : List Nat} (hlen : t.length = fieldLength n)
    (h : fieldIndices t (padBits n) = some vs) : b64Enc (decodeIndices n vs) = t := by
  obtain ⟨hvs, hlast⟩ := fieldIndices_some h
  have hvlen : vs.length = fieldLength n := (length_indicesOf hvs).trans hlen
  obtain ⟨hlt, rfl⟩ := map_alpha_of_indicesOf hvs
  have hpad : ofDigits 64 vs / 2 ^ padBits n * 2 ^ padBits n = ofDigits 64 vs := by
    refine Nat.div_mul_cancel (Nat.dvd_of_mod_eq_zero ?_)
    rw [ofDigits_mod_pad, hlast]
  have hfits : ofDigits 64 vs / 2 ^ padBits n < 256 ^ n := by
    refine Nat.div_lt_of_lt_mul ?_
    rw [← field_pow, ← hvlen]
    exact ofDigits_lt vs hlt
  have hvalue : bytesValue (decodeIndices n vs) = ofDigits 64 vs / 2 ^ padBits n := by
    rw [decodeIndices_eq hvlen, bytesValue_valueBytes hfits]
  rw [b64Enc_eq, encodeIndices, length_decodeIndices, hvalue, hpad, ← hvlen, toDigits_ofDigits vs hlt]

/-- What the encoder writes for `n` bytes. -/
theorem b64Enc_spec {n : Nat} {b : List Byte} (hlen : b.length = n) :
    (b64Enc b).length = fieldLength n ∧ fieldOk (b64Enc b) (padBits n) = true ∧ b64Dec (b64Enc b) n = some b := by
  subst hlen
  have hfield := fieldIndices_b64Enc b
  refine ⟨length_b64Enc b, fieldOk_iff.mpr ⟨_, hfield⟩, ?_⟩
  rw [b64Dec_of_fieldIndices hfield, decodeIndices_encodeIndices]

/-- A field of the length for `n` bytes that passes the check encodes the bytes it decodes to. -/
theorem b64Dec_spec {n : Nat} {t : List Byte} (hlen : t.length = fieldLength n) (hok : fieldOk t (padBits n) = true) :
    ∃ b, b64Dec t n = some b ∧ b.length = n ∧ b64Enc b = t := by
  obtain ⟨vs, hvs⟩ := fieldOk_iff.mp hok
  exact ⟨_, b64Dec_of_fieldIndices hvs n, length_decodeIndices n vs, b64Enc_decodeIndices hlen hvs⟩

/-! ### The four commands (R245 to R248) -/

/-- TEXTW takes the given words. -/
def setText (ws : Vector Word 8) (s : State) : State := { s with textw := ws }

/-- SALTW takes the given words. -/
def setSalt (ws : Vector Word 4) (s : State) : State := { s with saltw := ws }

theorem setText_regValue {r : Reg} (hr : r.inText = false) (ws : Vector Word 8) (s : State) :
    (setText ws s).regValue r = s.regValue r := by
  cases r with
  | textw => cases hr
  | _ => rfl

theorem setSalt_regValue {r : Reg} (hr : r.inSalt = false) (ws : Vector Word 4) (s : State) :
    (setSalt ws s).regValue r = s.regValue r := by
  cases r with
  | saltw => cases hr
  | _ => rfl

theorem length_saltb (s : State) : s.saltb.length = 16 := by simp [State.saltb]

theorem length_digb (s : State) : s.digb.length = 24 := by simp [State.digb]

theorem length_textb (s : State) : s.textb.length = 32 := by simp [State.textb]

theorem textb_setText {bs : List Byte} (h : bs.length = 32) (s : State) : (setText (wordsOfBytes 8 bs) s).textb = bs :=
  bytesOfWords_wordsOfBytes h

theorem saltb_setSalt {bs : List Byte} (h : bs.length = 16) (s : State) : (setSalt (wordsOfBytes 4 bs) s).saltb = bs :=
  bytesOfWords_wordsOfBytes h

theorem digb_setDig {bs : List Byte} (h : bs.length = 24) (s : State) : (setDig (wordsOfBytes 6 bs) s).digb = bs :=
  bytesOfWords_wordsOfBytes h

/-- The bytes of the salt's field in TEXTB, with the zeros after it (R245). -/
def saltText (s : State) : List Byte := b64Enc s.saltb ++ List.replicate 10 0x00

theorem length_saltText (s : State) : (saltText s).length = 32 := by simp [saltText, length_saltb]

theorem take_saltText (s : State) : (saltText s).take 22 = b64Enc s.saltb :=
  List.take_left' (by rw [length_b64Enc, length_saltb])

theorem length_digestField (s : State) : (b64Enc (s.digb.take 23) ++ [0x00]).length = 32 := by simp [length_digb]

theorem exec_b64EncSalt (s : State) :
    exec .b64EncSalt s = .next (completeOk (setText (wordsOfBytes 8 (saltText s)) s)) := rfl

theorem exec_b64EncDigest (s : State) :
    exec .b64EncDigest s = .next (completeOk (setText (wordsOfBytes 8 (b64Enc (s.digb.take 23) ++ [0x00])) s)) := rfl

theorem exec_b64DecSalt_some {s : State} {vs : List Nat} (h : fieldIndices (s.textb.take 22) 4 = some vs) :
    exec .b64DecSalt s =
      .next (completeOk (setSched .none (setSalt (wordsOfBytes 4 (decodeIndices 16 vs)) s))) := by
  simp only [exec, execB64DecSalt, h, setSalt]

theorem exec_b64DecSalt_none {s : State} (h : fieldIndices (s.textb.take 22) 4 = none) :
    exec .b64DecSalt s = .next (raiseError .saltGrammar s) := by
  simp only [exec, execB64DecSalt, h]

theorem exec_b64DecDigest_some {s : State} {vs : List Nat} (h : fieldIndices (s.textb.take 31) 2 = some vs) :
    exec .b64DecDigest s = .next (completeOk (setDig (wordsOfBytes 6 (decodeIndices 23 vs ++ [0x00])) s)) := by
  simp only [exec, execB64DecDigest, h, setDig]

theorem exec_b64DecDigest_none {s : State} (h : fieldIndices (s.textb.take 31) 2 = none) :
    exec .b64DecDigest s = .next (raiseError .digestGrammar s) := by
  simp only [exec, execB64DecDigest, h]

theorem completeOk_setText_succeeds (ws : Vector Word 8) (s : State) :
    Succeeds Reg.inText s.status.sched s (completeOk (setText ws s)) :=
  completeOk_succeeds rfl (fun _ hr _ => setText_regValue hr ws s) ⟨rfl, rfl, rfl, rfl⟩

/-- B64_DEC_SALT then B64_ENC_SALT restores the field. -/
theorem encSalt_after_decSalt {s : State} (hok : fieldOk (s.textb.take 22) 4 = true) :
    ∃ t u, exec .b64DecSalt s = .next t ∧ exec .b64EncSalt t = .next u ∧ u.textb.take 22 = s.textb.take 22 := by
  obtain ⟨vs, hvs⟩ := fieldOk_iff.mp hok
  refine ⟨_, _, exec_b64DecSalt_some hvs, exec_b64EncSalt _, ?_⟩
  have hlen : (s.textb.take 22).length = fieldLength 16 := by simp [length_textb, fieldLength]
  rw [completeOk_textb, textb_setText (length_saltText _), take_saltText, completeOk_saltb, setSched_saltb,
    saltb_setSalt (length_decodeIndices 16 vs), b64Enc_decodeIndices hlen hvs]

/-- B64_ENC_SALT then B64_DEC_SALT restores the salt. -/
theorem decSalt_after_encSalt (s : State) :
    ∃ t u, exec .b64EncSalt s = .next t ∧ exec .b64DecSalt t = .next u ∧ u.saltw = s.saltw := by
  have hfield := fieldIndices_b64Enc s.saltb
  have hbytes := decodeIndices_encodeIndices s.saltb
  rw [length_saltb] at hfield hbytes
  refine ⟨_, _, exec_b64EncSalt s, exec_b64DecSalt_some (vs := encodeIndices s.saltb) ?_, ?_⟩
  · rw [completeOk_textb, textb_setText (length_saltText s), take_saltText]
    exact hfield
  · rw [hbytes]
    exact wordsOfBytes_bytesOfWords s.saltw

end Sys2Proof.Machine

open Sys2Proof Sys2Proof.Machine

/-- Settles O45: Alpha and Index agree range by range; the string is evaluated. -/
theorem alphabetIndexInverse : Obligations.AlphabetIndexInverse :=
  ⟨indexOf_alpha, fun _ _ => alpha_of_indexOf, by decide +kernel⟩

/-- Settles O46: `n` bytes followed by `padBits n` zero bits are the digits of one number in base 64, and a field that
passes the check ends in those zero bits. -/
theorem base64RoundTrip : Obligations.Base64RoundTrip :=
  ⟨fun _ => ⟨b64Enc_spec (n := 16), b64Enc_spec (n := 23)⟩, fun _ => ⟨b64Dec_spec (n := 16), b64Dec_spec (n := 23)⟩,
    fun s => ⟨encSalt_after_decSalt, decSalt_after_encSalt s⟩⟩

/-- Settles O47: the check is one of the last index, and the lists are the characters of the indices it admits. -/
theorem fieldLastCharacters : Obligations.FieldLastCharacters := by
  intro t c h
  rw [fieldOk_append_singleton h, fieldOk_append_singleton h, ← mem_lastCharacters_iff, ← mem_lastCharacters_iff]
  exact ⟨Iff.rfl, Iff.rfl⟩

/-- Settles O48: each encoder writes 32 bytes to TEXTB, and completes with SCHED as it was. -/
theorem base64EncodersWriteText : Obligations.Base64EncodersWriteText := by
  refine ⟨decodeWord_encode_toOption .b64EncSalt, decodeWord_encode_toOption .b64EncDigest, fun s => ⟨?salt, ?digest⟩⟩
  case salt => exact ⟨_, exec_b64EncSalt s, textb_setText (length_saltText s) s, rfl, completeOk_setText_succeeds _ s⟩
  case digest =>
    exact ⟨_, exec_b64EncDigest s, textb_setText (length_digestField s) s, rfl, completeOk_setText_succeeds _ s⟩

/-- Settles O49, along the two answers of the field check. -/
theorem saltDecoderChecksField : Obligations.SaltDecoderChecksField := by
  refine ⟨decodeWord_encode_toOption .b64DecSalt, fun s => ⟨fun hok => ?passes, fun hbad => ?fails⟩⟩
  case passes =>
    obtain ⟨vs, hvs⟩ := fieldOk_iff.mp hok
    refine ⟨_, exec_b64DecSalt_some hvs, ?_, rfl, completeOk_succeeds rfl (fun r hr hstatus => ?_) ⟨rfl, rfl, rfl, rfl⟩⟩
    · rw [b64Dec_of_fieldIndices hvs, completeOk_saltb, setSched_saltb, saltb_setSalt (length_decodeIndices 16 vs)]
    · rw [setSched_regValue hstatus, setSalt_regValue hr]
  case fails => exact ⟨_, exec_b64DecSalt_none (fieldIndices_eq_none hbad), raiseError_fails .saltGrammar s⟩

/-- Settles O50, along the two answers of the field check. -/
theorem digestDecoderChecksField : Obligations.DigestDecoderChecksField := by
  refine ⟨decodeWord_encode_toOption .b64DecDigest, fun s => ⟨fun hok => ?passes, fun hbad => ?fails⟩⟩
  case passes =>
    obtain ⟨vs, hvs⟩ := fieldOk_iff.mp hok
    have hlen : (decodeIndices 23 vs ++ [0x00]).length = 24 := by simp
    refine ⟨_, exec_b64DecDigest_some hvs, ?_, rfl,
      completeOk_succeeds rfl (fun _ hr _ => setDig_regValue hr _ s) ⟨rfl, rfl, rfl, rfl⟩⟩
    rw [b64Dec_of_fieldIndices hvs, Option.map_some, completeOk_digb, digb_setDig hlen]
  case fails => exact ⟨_, exec_b64DecDigest_none (fieldIndices_eq_none hbad), raiseError_fails .digestGrammar s⟩
end

section
/-! PROOFS. The hash string (45_host_framing.md): what Parse accepts and returns, and Format of it. -/

namespace Sys2Proof.Machine

/-! ### The cost field (R272, R275) -/

/-- A digit character is the code of its value. -/
theorem digitValue_some {c : Byte} {d : Nat} (h : digitValue c = some d) : d < 10 ∧ BitVec.ofNat 8 (0x30 + d) = c := by
  obtain ⟨⟨hlo, hhi⟩, hd⟩ := Option.ite_none_right_eq_some.mp h
  cases hd
  bv_omega

/-- The two digits of the value are the characters it was read from. -/
theorem costDigits_of_costValue {c0 c1 : Byte} {c : Nat} (h : costValue c0 c1 = some c) : costDigits c = [c0, c1] := by
  unfold costValue at h
  split at h
  next d0 d1 h0 h1 =>
    obtain ⟨-, rfl⟩ := digitValue_some h0
    obtain ⟨hlt, rfl⟩ := digitValue_some h1
    cases h
    rw [costDigits, Nat.mul_add_div (by decide), Nat.div_eq_of_lt hlt, Nat.add_zero, Nat.mul_add_mod,
      Nat.mod_eq_of_lt hlt]
  next => cases h

/-! ### The grammar of what Parse accepts (R270, R273) -/

/-- `t` spells the record `p`: its parts stand in `t` in order, and each passes the check that Parse makes of it. -/
structure ParsedHash.Spells (p : ParsedHash) (t : List Byte) : Prop where
  text : t = settingText p.tag p.cost p.saltField ++ p.digestField.getD []
  tag_accepted : p.tag ∈ Config.acceptedPrefixes
  cost_range : 4 ≤ p.cost ∧ p.cost ≤ 31
  salt_length : p.saltField.length = 22
  salt_ok : fieldOk p.saltField 4 = true
  digest_length : ∀ d, p.digestField = some d → d.length = 31
  digest_ok : ∀ d, p.digestField = some d → fieldOk d 2 = true

theorem settingText_append (tag : Byte × Byte) (c : Nat) (f g : List Byte) :
    settingText tag c (f ++ g) = settingText tag c f ++ g := by
  simp only [settingText, List.append_assoc]

/-- A string with its separators in place is its tag and its cost, and the characters from position 7 on. -/
theorem eq_settingText_drop {t : List Byte} {c : Nat} (hlen : 7 ≤ t.length) (h0 : t.getD 0 0 = dollar)
    (h3 : t.getD 3 0 = dollar) (h6 : t.getD 6 0 = dollar) (hc : costValue (t.getD 4 0) (t.getD 5 0) = some c) :
    t = settingText (t.getD 1 0, t.getD 2 0) c (t.drop 7) := by
  rw [settingText, costDigits_of_costValue hc, ← h0]
  match t, hlen with
  | t0 :: _ :: _ :: t3 :: _ :: _ :: t6 :: _, _ =>
    obtain rfl : t3 = t0 := h3.trans h0.symm
    obtain rfl : t6 = t3 := h6.trans h0.symm
    rfl

/-- What stands behind a check that answers an error when it fails. -/
theorem of_ite_error_eq_ok {ε α : Type} {c : Prop} [Decidable c] {e : ε} {x : Except ε α} {a : α}
    (h : (if c then .error e else x) = .ok a) : ¬c ∧ x = .ok a := by
  split at h
  next => cases h
  next hc => exact ⟨hc, h⟩

/-- The checks of Parse in their order, then the two lengths it accepts. -/
theorem parseHash_spells {t : List Byte} {p : ParsedHash} (h : parseHash t = .ok p) : p.Spells t := by
  unfold parseHash at h
  obtain ⟨htag, h⟩ := of_ite_error_eq_ok h
  obtain ⟨hcost, h⟩ := of_ite_error_eq_ok h
  push Not at htag hcost
  obtain ⟨-, h0, h3, haccepted⟩ := htag
  obtain ⟨hlen, h6⟩ := hcost
  split at h
  next => cases h
  next c hc =>
  have htext := eq_settingText_drop hlen h0 h3 h6 hc
  obtain ⟨hrange, h⟩ := of_ite_error_eq_ok h
  obtain ⟨hsalt, h⟩ := of_ite_error_eq_ok h
  push Not at hrange hsalt
  obtain ⟨-, hsaltOk⟩ := hsalt
  split at h
  next h29 =>
    cases h
    have hfield : (t.drop 7).take 22 = t.drop 7 := List.take_of_length_le (by simp [h29])
    rw [hfield] at hsaltOk
    exact ⟨by simpa using htext, haccepted, hrange, by simp [h29], by simpa using hsaltOk, nofun, nofun⟩
  next =>
    obtain ⟨hdigest, h⟩ := of_ite_error_eq_ok h
    cases h
    push Not at hdigest
    obtain ⟨h60, hdigestOk⟩ := hdigest
    have hfields : (t.drop 7).take 22 ++ t.drop 29 = t.drop 7 := by
      rw [← List.drop_drop (i := 22) (j := 7), List.take_append_drop]
    refine ⟨?text, haccepted, hrange, by simp [h60], by simpa using hsaltOk, ?digest_length, ?digest_ok⟩
    case text => rwa [Option.getD_some, ← settingText_append, hfields]
    case digest_length =>
      rintro _ ⟨⟩
      simp [h60]
    case digest_ok =>
      rintro _ ⟨⟩
      simpa using hdigestOk

end Sys2Proof.Machine

open Sys2Proof Sys2Proof.Machine

/-- Settles O58: Parse leaves the text spelled by its parts, and a field that passes its check is the encoding of the bytes
it decodes to. -/
theorem parsedHashReformats : Obligations.ParsedHashReformats := by
  intro t p hparse hdigest
  have hp := parseHash_spells hparse
  obtain ⟨field, hfield⟩ := Option.ne_none_iff_exists'.mp hdigest
  obtain ⟨salt, hsalt, -, hsaltField⟩ := b64Dec_spec (n := 16) hp.salt_length hp.salt_ok
  obtain ⟨digest, hdig, -, hdigField⟩ :=
    b64Dec_spec (n := 23) (hp.digest_length field hfield) (hp.digest_ok field hfield)
  simp only [reformat, hfield, hsalt, Option.bind_some, hdig, formatHash, hsaltField, hdigField, hp.text,
    Option.getD_some]
end

section
/-! PROOFS. The interrupt line in the words the host reads (60_exceptions.md R306). -/

open Sys2Proof Sys2Proof.Machine

/-- Settles O17: while BUSY or idle the two reads return the words of STATUS and IRQ_EN, whose bits 1, 2, 3 and 5 are the
flags and the enables of the line. -/
theorem irqIsEnabledPendingSource : Obligations.IrqIsEnabledPendingSource := by
  intro s
  obtain ⟨-, hdone, herr, hprog, -, hovr, -, -⟩ := status_bits s.status
  obtain ⟨hdoneEn, herrEn, hprogEn, hovrEn⟩ := irqEn_bits s.irqEn
  rw [hostRead_status, hostRead_irqEn, hdone, herr, hprog, hovr, hdoneEn, herrEn, hprogEn, hovrEn, State.irq]
end

section
/-! PROOFS. The decoder and the encoder of command words (30_encoding.md R110 to R115), and the engine's turn
(00_scope.md R16). -/

namespace Sys2Proof.Machine

/-! ### The opcode table (R114) -/

/-- Every row of the table is the word of its command, RSV left out. -/
theorem encode_of_row : ∀ row ∈ opcodeTable, row.1.setWidth 32 = encode row.2 := by decide

theorem opcodes_eq : opcodes = opcodeTable.map Prod.fst := rfl

/-- The opcode of a command is the low byte of its word. -/
theorem encode_of_decodeOpcode {opc : Byte} {i : Instr} (h : decodeOpcode opc = some i) :
    opc.setWidth 32 = encode i := by
  obtain ⟨row, hfind, rfl⟩ := Option.map_eq_some_iff.mp h
  have hopc : row.1 = opc := by simpa using List.find?_some hfind
  rw [← hopc, encode_of_row row (List.mem_of_find?_eq_some hfind)]

theorem decodeOpcode_eq {opc : Byte} {i : Instr} (h : decodeOpcode opc = some i) :
    opc = (encode i).extractLsb' 0 8 := by
  apply BitVec.eq_of_toNat_eq
  rw [← encode_of_decodeOpcode h, extract_toNat, BitVec.toNat_setWidth]
  omega

theorem exists_decodeOpcode {opc : Byte} (h : opc ∈ opcodes) : ∃ i, decodeOpcode opc = some i := by
  rw [opcodes_eq, List.mem_map] at h
  obtain ⟨row, hmem, hopc⟩ := h
  obtain ⟨found, hfound⟩ := Option.isSome_iff_exists.mp
    (List.find?_isSome (p := fun r => r.1 == opc) |>.mpr ⟨row, hmem, by simpa using hopc⟩)
  exact ⟨found.2, by rw [decodeOpcode, hfound, Option.map_some]⟩

/-! ### Words (R111, R113, R115) -/

theorem decodeWord_ok_iff (w : Word) (i : Instr) : decodeWord w = .ok i ↔ w = encode i := by
  constructor
  · intro h
    calc w = (w.extractLsb' 0 8).setWidth 32 := word_of_low_byte (reserved_eq_zero_of_decodeWord h)
      _ = encode i := encode_of_decodeOpcode (decodeWord_opcode h)
  · rintro rfl
    exact decodeWord_encode i

theorem commandWordWf_iff (w : Word) :
    commandWordWf w = true ↔ w.extractLsb' 8 24 = 0 ∧ w.extractLsb' 0 8 ∈ opcodes := by
  simp [commandWordWf]

theorem exists_decodeWord_iff (w : Word) : (∃ i, decodeWord w = .ok i) ↔ commandWordWf w = true := by
  rw [commandWordWf_iff]
  constructor
  · rintro ⟨i, h⟩
    exact ⟨reserved_eq_zero_of_decodeWord h, mem_opcodes_of_decodeOpcode (decodeWord_opcode h)⟩
  · rintro ⟨hrsv, hopc⟩
    obtain ⟨i, hi⟩ := exists_decodeOpcode hopc
    exact ⟨i, by simp only [decodeWord, hrsv, ne_eq, not_true_eq_false, if_false, hi]⟩

/-! ### Byte strings (R11, R110) -/

/-- Four bytes decode as the word they make. -/
theorem decodeBytes_ok_iff (b0 b1 b2 b3 : Byte) (tail rest : List Byte) (i : Instr) :
    decodeBytes (b0 :: b1 :: b2 :: b3 :: tail) = .ok (i, rest) ↔
      decodeWord (be32 b0 b1 b2 b3) = .ok i ∧ tail = rest := by
  have heq : decodeBytes (b0 :: b1 :: b2 :: b3 :: tail) =
      match decodeWord (be32 b0 b1 b2 b3) with
      | .ok i => .ok (i, tail)
      | .error e => .error e := rfl
  rw [heq]
  cases decodeWord (be32 b0 b1 b2 b3) <;> simp

/-- Four bytes make a word exactly when they are its bytes. -/
theorem be32_eq_iff (b0 b1 b2 b3 : Byte) (w : Word) : be32 b0 b1 b2 b3 = w ↔ [b0, b1, b2, b3] = wordBytes w := by
  constructor
  · rintro rfl
    exact (wordBytes_be32 b0 b1 b2 b3).symm
  · intro h
    simp only [wordBytes, List.cons.injEq, and_true] at h
    obtain ⟨rfl, rfl, rfl, rfl⟩ := h
    exact be32_bytes w

theorem decodeBytes_eq_ok_iff (bs rest : List Byte) (i : Instr) :
    decodeBytes bs = .ok (i, rest) ↔ bs = wordBytes (encode i) ++ rest := by
  match bs with
  | b0 :: b1 :: b2 :: b3 :: tail =>
    rw [decodeBytes_ok_iff, decodeWord_ok_iff, be32_eq_iff]
    simp [wordBytes, and_assoc]
  | [] | [_] | [_, _] | [_, _, _] => simp [decodeBytes, wordBytes]

theorem wf_eq_true (i : Instr) : i.wf = true := by
  cases i <;> rfl

/-! ### The turn (R90) -/

theorem step_of_turn {s : State} {u : Turn} (h : s.turn = some u) : step s = takeTurn u s.popTurn := by
  simp only [step, h]

end Sys2Proof.Machine

open Sys2Proof Sys2Proof.Machine

/-- Settles O4: the table's rows are the words, a word is its low byte when RSV is 0, and packing four bytes is a
bijection. -/
theorem decodeInvertsEncode : Obligations.DecodeInvertsEncode := by
  refine ⟨decodeWord_ok_iff, fun w => (exists_decodeWord_iff w).symm, fun bs rest i => ?bytes⟩
  case bytes => rw [decodeBytes_eq_ok_iff, wf_eq_true, eq_self_iff_true, true_and]

/-- Settles O5: five words are those of their commands, and no reserved bit set or unassigned opcode decodes. -/
theorem writtenOutWordsDecode : Obligations.WrittenOutWordsDecode :=
  ⟨decodeWord_encode_toOption .init, decodeWord_encode_toOption .scrub, decodeWord_encode_toOption .expandKey,
    decodeWord_encode_toOption .hash, decodeWord_encode_toOption .b64DecDigest, rfl, rfl, rfl⟩

/-- Settles O3: the turn is the engine's, and CUR decodes as the low byte of the word. -/
theorem stepRunsDecodedCommand : Obligations.StepRunsDecodedCommand := by
  intro s w i hturn hbusy hdecode hcur
  have hopc : decodeOpcode s.popTurn.cur = some i := by
    rw [popTurn_cur, hcur]
    exact decodeWord_opcode hdecode
  calc step s = engineTurn s.popTurn := step_of_turn hturn
    _ = exec i s.popTurn := engineTurn_busy hbusy hopc
end

section
/-! PROOFS. What a host may read while BUSY (10_state.md R53) and what its writes leave while idle (R22 to R48); the
reset event (70_reset_and_hazards.md R340). -/

namespace Sys2Proof.Machine

/-- Every register below 0x0030 is one of those a host may read while BUSY (R53). -/
theorem regValue_eq_of_low {s s' : State} (hstatus : s.status = s'.status) (hirq : s.irqEn = s'.irqEn)
    (herr : s.errcode = s'.errcode) (hcost : s.cost = s'.cost) (hpwlen : s.pwlen = s'.pwlen)
    (hslice : s.slice = s'.slice) (hiter : s.iter = s'.iter) (htotal : s.iterTotal = s'.iterTotal)
    {r : Reg} (hlow : r.offset < 0x0030) :
    s.regValue r = s'.regValue r := by
  cases r with
  | id | version | cmd => rfl
  | status => exact congrArg Status.toWord hstatus
  | irqEn => exact congrArg IrqEnable.toWord hirq
  | errcode => exact congrArg (fun e => e.code.setWidth 32) herr
  | cost => exact hcost
  | pwlen => exact hpwlen
  | slice => exact hslice
  | iter => exact hiter
  | iterTotal => exact htotal
  | blkL | blkR | pww | saltw | dig | textw | refw | p | s => simp only [Reg.offset] at hlow; omega

/-- Below the blocks of words every offset with a register is that register's. -/
theorem offset_of_regAt_low {off : Nat} {r : Reg} (hlow : off < 0x0030) (h : regAt off = some r) : r.offset = off := by
  rw [regAt, if_pos (by omega)] at h
  exact controlRegAt_some h

/-- While BUSY the value of a read is a function of the registers below 0x0030. -/
theorem hostRead_eq_of_low {s s' : State} (hbusy : s.status.busy = true) (hbusy' : s'.status.busy = true)
    (hlow : ∀ r : Reg, r.offset < 0x0030 → s.regValue r = s'.regValue r) (off : Nat) :
    s.hostRead off = s'.hostRead off := by
  by_cases hoff : off < 0x0030
  · cases hreg : regAt off with
    | none => rw [hostRead_reserved hreg, hostRead_reserved hreg]
    | some r =>
      rw [hostRead_shown hreg (.inr hoff), hostRead_shown hreg (.inr hoff)]
      exact hlow r (by rwa [offset_of_regAt_low hoff hreg])
  · rw [hostRead_hidden hbusy (by omega), hostRead_hidden hbusy' (by omega)]

/-! ### Writes while idle -/

/-- The value a write while idle leaves in the register it names. -/
theorem writeIdle_regValue_same {r : Reg} (hr : r ∉ [Reg.id, .version, .cmd, .status, .errcode, .iter, .iterTotal])
    (s : State) (v : Word) :
    (writeIdle s r v).regValue r =
      if r = .pwlen then (if v.toNat ≤ 72 then v else 72) else if r = .irqEn then v &&& 0x2E else v := by
  cases r with
  | id | version | cmd | status | errcode | iter | iterTotal => exact absurd (by decide) hr
  | irqEn => exact irqEn_word v
  | pwlen | cost | slice | blkL | blkR => rfl
  | pww | saltw | dig | textw | refw => exact Vector.getElem_set_self _
  | p => exact Vector.getElem_set_self _
  | s b i => simp [writeIdle, State.regValue, setSched, setCipher, CipherState.setS]

/-- In a buffer whose words are the registers `f`, the write of one register leaves the words of the others. -/
theorem getElem_set_of_reg_ne {n : Nat} {f : Fin n → Reg} {i j : Fin n} (hne : f j ≠ f i) (ws : Vector Word n)
    (v : Word) : (ws.set i v)[j] = ws[j] := by
  refine Vector.getElem_set_ne _ _ fun hij => hne ?_
  rw [Fin.ext hij]

theorem setS_S_of_reg_ne {b b' : Fin 4} {i i' : Fin 256} (hne : Reg.s b' i' ≠ Reg.s b i) (cs : CipherState) (v : Word) :
    (cs.setS b i v).S[b'][i'] = cs.S[b'][i'] := by
  by_cases hb : b' = b
  · subst hb
    simpa [CipherState.setS] using getElem_set_of_reg_ne (f := Reg.s b') hne cs.S[b'] v
  · have hval : b.val ≠ b'.val := fun h => hb (Fin.ext h.symm)
    simp [CipherState.setS, hval]

/-- A write while idle to a register other than CMD and STATUS leaves every other register but STATUS. -/
theorem writeIdle_regValue_other {r r' : Reg} (hcmd : r ≠ .cmd) (hne : r' ≠ r) (hstatus : r' ≠ .status) (s : State)
    (v : Word) : (writeIdle s r v).regValue r' = s.regValue r' := by
  cases r with
  | id | version | errcode | iter | iterTotal => rfl
  | cmd => exact absurd rfl hcmd
  | status | irqEn | cost | pwlen | slice | blkL | blkR =>
    cases r' <;> first | rfl | exact absurd rfl hne | exact absurd rfl hstatus
  | dig i | textw i | refw i =>
    cases r' <;> first | rfl | exact getElem_set_of_reg_ne hne _ v
  | pww i | saltw i | p i =>
    cases r' <;> first | rfl | exact absurd rfl hstatus | exact getElem_set_of_reg_ne hne _ v
  | s b i =>
    cases r' with
    | s b' i' => exact setS_S_of_reg_ne hne s.cipher v
    | status => exact absurd rfl hstatus
    | _ => rfl

/-- A write while idle to a register other than CMD leaves SLICE_CNT, ABORT_REQ and BUSY. -/
theorem writeIdle_hidden {r : Reg} (hcmd : r ≠ .cmd) (s : State) (v : Word) :
    (writeIdle s r v).sliceCnt = s.sliceCnt ∧ (writeIdle s r v).abortReq = s.abortReq ∧
      (writeIdle s r v).status.busy = s.status.busy := by
  cases r with
  | cmd => exact absurd rfl hcmd
  | _ => exact ⟨rfl, rfl, rfl⟩

theorem hostWrite_hostKept (s : State) (off : Nat) (v : Word) : HostKept s (s.hostWrite off v) := by
  obtain ⟨hprogram, hschedule, hresults, hflag⟩ := hostWrite_host s off v
  exact ⟨hprogram, hschedule, hresults, hflag⟩

end Sys2Proof.Machine

open Sys2Proof Sys2Proof.Machine

/-- Settles O2: the step is `resetTurn`, which keeps nothing of the device. -/
theorem resetTurnGivesResetState : Obligations.ResetTurnGivesResetState := by
  intro s rest hsched
  have hturn : s.turn = some .rst := by rw [State.turn, hsched]
  refine ⟨resetTurn s.popTurn, step_of_turn hturn, fun r => ?_, rfl, rfl, rfl, ?_, rfl, rfl, rfl⟩
  · cases r <;> rfl
  · change s.popTurn.schedule = rest
    rw [popTurn_schedule, hsched, List.tail_cons]

/-- Settles O9: what is read at 0x0030 and above is 0, and below it lie only the registers the two states share. -/
theorem busyReadsHideDataRegisters : Obligations.BusyReadsHideDataRegisters := by
  intro s s' hbusy hstatus hirq herr hcost hpwlen hslice hiter htotal off
  have hread := hostRead_eq_of_low hbusy (hstatus ▸ hbusy)
    (fun _ => regValue_eq_of_low hstatus hirq herr hcost hpwlen hslice hiter htotal) off
  exact ⟨hread, congrArg (fun w => s.results ++ [w]) hread⟩

/-- Settles O11, from what a write while idle leaves in the register written and in the others. -/
theorem idleWriteReadsBack : Obligations.IdleWriteReadsBack := by
  intro s r v hidle hr
  have hcmd : r ≠ .cmd := fun h => hr (by simp [h])
  have hkept := hostWrite_hostKept s r.offset v
  rw [hostWrite_idle hidle] at hkept ⊢
  obtain ⟨hslice, habort, hbusy⟩ := writeIdle_hidden hcmd s v
  rw [hostRead_idle (hbusy.trans hidle), writeIdle_regValue_same hr]
  exact ⟨rfl, fun _ hne hstatus => writeIdle_regValue_other hcmd hne hstatus s v, hslice, habort, hkept⟩
end

section
/-! PROOFS. Encrypt is injective on blocks (41_cipher.md R142). -/

namespace Sys2Proof.Machine

theorem foldl_injective {α β : Type} {f : α → β → α} (hf : ∀ b, Function.Injective (f · b)) (bs : List β) :
    Function.Injective fun a => bs.foldl f a := by
  induction bs with
  | nil => exact fun _ _ h => h
  | cons b bs ih => exact fun _ _ h => hf b (ih h)

/-- A round shows the mixed left half, and with it what F mixed into the right half. -/
theorem feistelRound_injective (cs : CipherState) (i : Fin 16) : Function.Injective (feistelRound cs · i) := by
  rintro ⟨l, r⟩ ⟨l', r'⟩ h
  obtain ⟨hright, hleft⟩ := Prod.mk.inj h
  obtain rfl : l = l' := (BitVec.xor_left_inj _).mp hleft
  obtain rfl : r = r' := (BitVec.xor_left_inj _).mp hright
  rfl

end Sys2Proof.Machine

open Sys2Proof Sys2Proof.Machine

/-- Settles O20: the output mixing and each of the 16 rounds can be undone. -/
theorem encryptIsInjective : Obligations.EncryptIsInjective := by
  intro cs l r l' r' h
  simp only [encryptBlock, Prod.mk.injEq, BitVec.xor_left_inj] at h
  have hrounds := foldl_injective (feistelRound_injective cs) (List.finRange 16) (Prod.ext h.2 h.1)
  exact Prod.mk.inj hrounds
end

section
/-! PROOFS. Everything one engine step of a command can do, said once, and the registers that commands leave
(10_state.md R22 to R46). -/

namespace Sys2Proof.Machine

/-- The step performs an iteration: EKS_CONTINUE on an active schedule at START, or one of the three commands at
LOOP. -/
def Iterates (i : Instr) (s : State) : Prop :=
  (i ∈ [Instr.eksContinue, .hash, .verify] ∧ s.phase = .loop) ∨
    (i = .eksContinue ∧ s.phase = .start ∧ s.status.sched = .active)

/-- The results of one engine step, the words a command computes left open. -/
inductive ExecEffect (s : State) : Instr → State → Prop where
  /-- a check fails; a command of several steps makes its checks at START -/
  | fails {i : Instr} (code : ErrCode) (hcode : code ≠ .none)
      (hstart : i ∈ [Instr.eksContinue, .hash, .verify] → s.phase = .start) : ExecEffect s i (raiseError code s)
  | writesCipher {i : Instr} (hi : i ∈ [Instr.init, .expandSalted, .expandKey, .expandSalt]) (cs : CipherState) :
      ExecEffect s i (completeOk (setSched .none (setCipher cs s)))
  | writesBlk (lr : Word × Word) : ExecEffect s .encrypt (completeOk (setBlk lr s))
  | scrubs : ExecEffect s .scrub (completeOk (setSched .none (scrubData s)))
  | onlyCompletes : ExecEffect s .abort (completeOk s)
  | writesDig {i : Instr} (hi : i ∈ [Instr.chain64, .b64DecDigest]) (ws : Vector Word 6) :
      ExecEffect s i (completeOk (setDig ws s))
  | writesText {i : Instr} (hi : i ∈ [Instr.b64EncSalt, .b64EncDigest]) (ws : Vector Word 8) :
      ExecEffect s i (completeOk (setText ws s))
  | writesSalt (ws : Vector Word 4) : ExecEffect s .b64DecSalt (completeOk (setSched .none (setSalt ws s)))
  | startsSchedule (hcost : costOk s.cost = true) : ExecEffect s .eksStart (completeOk (startSchedule s))
  | startsHash {i : Instr} (hi : i = .hash ∨ i = .verify) (hcost : costOk s.cost = true) (hphase : s.phase = .start) :
      ExecEffect s i (hashStart s)
  | yields {i : Instr} (hi : Iterates i s) (hoff : ¬s.endsSlice) : ExecEffect s i { iterate s with phase := .loop }
  | aborts {i : Instr} (hi : Iterates i s) (hends : s.endsSlice) (habort : s.abortReq = true) :
      ExecEffect s i (abortAtBoundary (markBoundary (iterate s)))
  | endsCommand (hi : Iterates .eksContinue s) (hends : s.endsSlice) (habort : s.abortReq = false) :
      ExecEffect s .eksContinue (completeOk (markBoundary (iterate s)))
  | advances {i : Instr} (hi : Iterates i s) (hhash : i = .hash ∨ i = .verify) (hends : s.endsSlice)
      (habort : s.abortReq = false) : ExecEffect s i (hashAdvance (markBoundary (iterate s)))
  | finishesHash (hphase : s.phase = .finish) : ExecEffect s .hash (completeOk (hashFinish s))
  | finishesVerify (hphase : s.phase = .finish) : ExecEffect s .verify (completeOk (setMatch (hashFinish s)))

/-! ### The steps that several commands share -/

theorem eksLoop_effect {s : State} (hi : Iterates .eksContinue s) : ExecEffect s .eksContinue (eksLoop s) := by
  obtain ⟨hyield, habort, hcomplete⟩ := eksLoop_eq s
  by_cases hends : s.endsSlice
  · cases ha : s.abortReq with
    | true => exact habort hends ha ▸ .aborts hi hends ha
    | false => exact hcomplete hends ha ▸ .endsCommand hi hends ha
  · exact hyield hends ▸ .yields hi hends

theorem hashLoop_effect {i : Instr} {s : State} (hhash : i = .hash ∨ i = .verify) (hphase : s.phase = .loop) :
    ExecEffect s i (hashLoop s) := by
  have hi : Iterates i s := .inl ⟨List.mem_cons_of_mem _ (by simpa using hhash), hphase⟩
  obtain ⟨hyield, habort, hadvance⟩ := hashLoop_eq s
  by_cases hends : s.endsSlice
  · cases ha : s.abortReq with
    | true => exact habort hends ha ▸ .aborts hi hends ha
    | false => exact hadvance hends ha ▸ .advances hi hhash hends ha
  · exact hyield hends ▸ .yields hi hends

theorem exec_hash_start {s : State} (hphase : s.phase = .start) :
    exec .hash s = if costOk s.cost then .next (hashStart s) else .next (raiseError .costDomain s) := by
  simp only [exec, execHash, hphase]

theorem exec_verify_start {s : State} (hphase : s.phase = .start) :
    exec .verify s =
      if costOk s.cost then
        if fieldOk (s.refb.take 31) 2 then .next (hashStart s) else .next (raiseError .digestGrammar s)
      else .next (raiseError .costDomain s) := by
  simp only [exec, execVerify, hphase]

theorem exec_eksContinue_finish {s : State} (hphase : s.phase = .finish) :
    exec .eksContinue s = .fault .phaseUnreachable := by
  simp only [exec, execEksContinue, hphase]

/-! ### Each command -/

theorem exec_eksContinue_effect {s : State} (hphase : s.phase ≠ .finish) :
    ∃ t, exec .eksContinue s = .next t ∧ ExecEffect s .eksContinue t := by
  cases hp : s.phase with
  | finish => exact absurd hp hphase
  | loop => exact ⟨_, exec_eksContinue_loop (.inl hp), eksLoop_effect (.inl ⟨by decide, hp⟩)⟩
  | start =>
    by_cases hsched : s.status.sched = .active
    · exact ⟨_, exec_eksContinue_loop (.inr ⟨hp, hsched⟩), eksLoop_effect (.inr ⟨rfl, hp, hsched⟩)⟩
    · exact ⟨_, exec_eksContinue_sequence hp hsched, .fails _ nofun fun _ => hp⟩

theorem exec_hash_effect (s : State) : ∃ t, exec .hash s = .next t ∧ ExecEffect s .hash t := by
  cases hp : s.phase with
  | finish => exact ⟨_, exec_hash_finish hp, .finishesHash hp⟩
  | loop => exact ⟨_, exec_hashVerify_loop (.inl rfl) hp, hashLoop_effect (.inl rfl) hp⟩
  | start =>
    rw [exec_hash_start hp]
    split_ifs with hcost
    · exact ⟨_, rfl, .startsHash (.inl rfl) hcost hp⟩
    · exact ⟨_, rfl, .fails _ nofun fun _ => hp⟩

theorem exec_verify_effect (s : State) : ∃ t, exec .verify s = .next t ∧ ExecEffect s .verify t := by
  cases hp : s.phase with
  | finish => exact ⟨_, exec_verify_finish hp, .finishesVerify hp⟩
  | loop => exact ⟨_, exec_hashVerify_loop (.inr rfl) hp, hashLoop_effect (.inr rfl) hp⟩
  | start =>
    rw [exec_verify_start hp]
    split_ifs with hcost hfield
    · exact ⟨_, rfl, .startsHash (.inr rfl) hcost hp⟩
    · exact ⟨_, rfl, .fails _ nofun fun _ => hp⟩
    · exact ⟨_, rfl, .fails _ nofun fun _ => hp⟩

theorem exec_eksStart_effect (s : State) : ∃ t, exec .eksStart s = .next t ∧ ExecEffect s .eksStart t := by
  by_cases hcost : costOk s.cost = true
  · exact ⟨_, exec_eksStart_legal hcost, .startsSchedule hcost⟩
  · exact ⟨_, exec_eksStart_illegal hcost, .fails _ nofun fun h => absurd h (by decide)⟩

theorem exec_b64DecSalt_effect (s : State) : ∃ t, exec .b64DecSalt s = .next t ∧ ExecEffect s .b64DecSalt t := by
  cases hfield : fieldIndices (s.textb.take 22) 4 with
  | some vs => exact ⟨_, exec_b64DecSalt_some hfield, .writesSalt _⟩
  | none => exact ⟨_, exec_b64DecSalt_none hfield, .fails _ nofun fun h => absurd h (by decide)⟩

theorem exec_b64DecDigest_effect (s : State) :
    ∃ t, exec .b64DecDigest s = .next t ∧ ExecEffect s .b64DecDigest t := by
  cases hfield : fieldIndices (s.textb.take 31) 2 with
  | some vs => exact ⟨_, exec_b64DecDigest_some hfield, .writesDig (by decide) _⟩
  | none => exact ⟨_, exec_b64DecDigest_none hfield, .fails _ nofun fun h => absurd h (by decide)⟩

/-- Every command answers a next state with one of the effects, but for EKS_CONTINUE at FINISH (log 4). -/
theorem exec_effect (i : Instr) (s : State) (h : i = .eksContinue → s.phase ≠ .finish) :
    ∃ t, exec i s = .next t ∧ ExecEffect s i t := by
  cases i with
  | init => exact ⟨_, exec_init s, .writesCipher (by decide) _⟩
  | encrypt => exact ⟨_, exec_encrypt s, .writesBlk _⟩
  | scrub => exact ⟨_, exec_scrub s, .scrubs⟩
  | abort => exact ⟨_, exec_abort s, .onlyCompletes⟩
  | expandSalted => exact ⟨_, exec_expandSalted s, .writesCipher (by decide) _⟩
  | expandKey => exact ⟨_, exec_expandKey s, .writesCipher (by decide) _⟩
  | expandSalt => exact ⟨_, exec_expandSalt s, .writesCipher (by decide) _⟩
  | eksStart => exact exec_eksStart_effect s
  | eksContinue => exact exec_eksContinue_effect (h rfl)
  | chain64 => exact ⟨_, exec_chain64 s, .writesDig (by decide) _⟩
  | hash => exact exec_hash_effect s
  | verify => exact exec_verify_effect s
  | b64EncSalt => exact ⟨_, exec_b64EncSalt s, .writesText (by decide) _⟩
  | b64DecSalt => exact exec_b64DecSalt_effect s
  | b64EncDigest => exact ⟨_, exec_b64EncDigest s, .writesText (by decide) _⟩
  | b64DecDigest => exact exec_b64DecDigest_effect s

/-- A next state is one of the effects. -/
theorem effect_of_exec {i : Instr} {s t : State} (h : exec i s = .next t) : ExecEffect s i t := by
  have hphase : i = .eksContinue → s.phase ≠ .finish := by
    rintro rfl hfinish
    rw [exec_eksContinue_finish hfinish] at h
    cases h
  obtain ⟨u, hu, heffect⟩ := exec_effect i s hphase
  obtain rfl : u = t := Host.Outcome.next.inj (hu.symm.trans h)
  exact heffect

/-! ### What commands leave -/

namespace ExecEffect

variable {s t : State} {i : Instr}

theorem keeps_host_registers (h : ExecEffect s i t) :
    t.cost = s.cost ∧ t.slice = s.slice ∧ t.irqEn = s.irqEn ∧ t.status.ovr = s.status.ovr := by
  cases h <;> exact ⟨rfl, rfl, rfl, rfl⟩

theorem hostKept (h : ExecEffect s i t) : HostKept s t := by
  cases h <;> exact ⟨rfl, rfl, rfl, rfl⟩

theorem keeps_password (h : ExecEffect s i t) (hi : i ≠ .scrub) :
    t.pww = s.pww ∧ t.pwlen = s.pwlen ∧ t.refw = s.refw := by
  cases h with
  | scrubs => exact absurd rfl hi
  | _ => exact ⟨rfl, rfl, rfl⟩

theorem keeps_salt (h : ExecEffect s i t) (hscrub : i ≠ .scrub) (hdec : i ≠ .b64DecSalt) : t.saltw = s.saltw := by
  cases h with
  | scrubs => exact absurd rfl hscrub
  | writesSalt => exact absurd rfl hdec
  | _ => rfl

theorem keeps_block (h : ExecEffect s i t) (hscrub : i ≠ .scrub) (hencrypt : i ≠ .encrypt) :
    t.blkL = s.blkL ∧ t.blkR = s.blkR := by
  cases h with
  | scrubs => exact absurd rfl hscrub
  | writesBlk => exact absurd rfl hencrypt
  | _ => exact ⟨rfl, rfl⟩

theorem keeps_match (h : ExecEffect s i t) (hi : i ≠ .verify) : t.status.matched = s.status.matched := by
  cases h with
  | finishesVerify => exact absurd rfl hi
  | _ => rfl

end ExecEffect

end Sys2Proof.Machine

open Sys2Proof Sys2Proof.Machine

/-- Settles O55, along the effects of a step. -/
theorem commandsKeepHostRegisters : Obligations.CommandsKeepHostRegisters := by
  intro i s t hexec
  have h := effect_of_exec hexec
  obtain ⟨hcost, hslice, hirq, hovr⟩ := h.keeps_host_registers
  exact ⟨hcost, hslice, hirq, hovr, h.hostKept, h.keeps_password, h.keeps_salt, h.keeps_block, h.keeps_match⟩
end

section
/-! PROOFS. One engine step of HASH and VERIFY at START, LOOP and FINISH (43_hashing.md R213, R214). -/

namespace Sys2Proof.Machine

/-! ### START -/

theorem costOk_eq_false {c : Word} (h : c.toNat < 4 ∨ 31 < c.toNat) : costOk c = false := by
  rw [← Bool.not_eq_true, costOk_iff]
  omega

/-- The cost is checked first (R307). -/
theorem exec_hashVerify_illegal {i : Instr} (hi : i = .hash ∨ i = .verify) {s : State} (hphase : s.phase = .start)
    (hcost : costOk s.cost = false) : exec i s = .next (raiseError .costDomain s) := by
  rcases hi with rfl | rfl
  · simp only [exec_hash_start hphase, hcost, Bool.false_eq_true, if_false]
  · simp only [exec_verify_start hphase, hcost, Bool.false_eq_true, if_false]

theorem exec_verify_badReference {s : State} (hphase : s.phase = .start) (hcost : costOk s.cost = true)
    (hfield : fieldOk (s.refb.take 31) 2 = false) : exec .verify s = .next (raiseError .digestGrammar s) := by
  simp only [exec_verify_start hphase, hcost, hfield, Bool.false_eq_true, if_true, if_false]

theorem exec_hashVerify_start {i : Instr} (hi : i = .hash ∨ i = .verify) {s : State} (hphase : s.phase = .start)
    (hcost : costOk s.cost = true) (hfield : i = .verify → fieldOk (s.refb.take 31) 2 = true) :
    exec i s = .next (hashStart s) := by
  rcases hi with rfl | rfl
  · simp only [exec_hash_start hphase, hcost, if_true]
  · simp only [exec_verify_start hphase, hcost, hfield rfl, if_true]

theorem hashStart_regValue {r : Reg} (hr : r.inCipher = false) (hkept : r ∉ [Reg.status, .iter, .iterTotal])
    (s : State) : (hashStart s).regValue r = s.regValue r := by
  cases r with
  | p | s => cases hr
  | status | iter | iterTotal => exact absurd (by decide) hkept
  | _ => rfl

/-! ### LOOP -/

/-- What one iteration of HASH and VERIFY does to a field it treats alike in the three ways it can end. -/
theorem hashLoop_cases {motive : State → Prop} (s : State) (yields : motive { iterate s with phase := .loop })
    (aborts : motive (abortAtBoundary (markBoundary (iterate s))))
    (advances : motive (hashAdvance (markBoundary (iterate s)))) : motive (hashLoop s) := by
  obtain ⟨hyield, habort, hadvance⟩ := hashLoop_eq s
  by_cases hends : s.endsSlice
  · cases ha : s.abortReq with
    | true => rwa [habort hends ha]
    | false => rwa [hadvance hends ha]
  · rwa [hyield hends]

theorem hashLoop_iter (s : State) : (hashLoop s).iter = s.iter + 1 :=
  hashLoop_cases (motive := fun t => t.iter = s.iter + 1) s rfl rfl rfl

theorem hashLoop_host (s : State) : HostKept s (hashLoop s) :=
  hashLoop_cases s ⟨rfl, rfl, rfl, rfl⟩ ⟨rfl, rfl, rfl, rfl⟩ ⟨rfl, rfl, rfl, rfl⟩

/-- Of the registers, one iteration of HASH and VERIFY writes P, S, STATUS, ERRCODE and ITER alone. -/
theorem hashLoop_regValue {r : Reg} (hr : r.inCipher = false) (hkept : r ∉ [Reg.status, .errcode, .iter]) (s : State) :
    (hashLoop s).regValue r = s.regValue r := by
  refine hashLoop_cases (motive := fun t => t.regValue r = s.regValue r) s ?yields ?aborts ?advances
  all_goals
    cases r with
    | p | s => cases hr
    | status | errcode | iter => exact absurd (by decide) hkept
    | _ => rfl

/-- The state after one iteration of HASH or VERIFY that is not aborted. -/
structure HashIterated (s t : State) : Prop where
  cipher : t.cipher = iterateCipher s.keyBytes s.saltb s.cipher
  errcode : t.errcode = s.errcode
  cur : t.cur = s.cur
  abortReq : t.abortReq = s.abortReq
  phase : t.phase = if s.iter + 1 = s.iterTotal then .finish else .loop

/-- Off a boundary and at one the loop goes on alike, but for STATUS and SLICE_CNT. -/
theorem hashLoop_iterated {s : State} (h : s.abortReq = false ∨ ¬s.endsSlice) : HashIterated s (hashLoop s) := by
  obtain ⟨hyield, -, hadvance⟩ := hashLoop_eq s
  by_cases hends : s.endsSlice
  · rw [hadvance hends (h.resolve_right (not_not_intro hends))]
    exact ⟨rfl, rfl, rfl, rfl, rfl⟩
  · have hlast : ¬s.iter + 1 = s.iterTotal := fun h => hends (.inr h)
    rw [hyield hends]
    exact ⟨rfl, rfl, rfl, rfl, by rw [if_neg hlast]⟩

theorem hashLoop_boundary {s : State} (hends : s.endsSlice) (habort : s.abortReq = false) :
    (hashLoop s).sliceCnt = 0 ∧
      (hashLoop s).status =
        { s.status with prog := true, sched := if s.iter + 1 = s.iterTotal then .complete else s.status.sched } := by
  rw [(hashLoop_eq s).2.2 hends habort]
  exact ⟨rfl, rfl⟩

theorem hashLoop_offBoundary {s : State} (hoff : ¬s.endsSlice) :
    (hashLoop s).sliceCnt = s.sliceCnt + 1 ∧ (hashLoop s).status = s.status := by
  rw [(hashLoop_eq s).1 hoff]
  exact ⟨rfl, rfl⟩

/-! ### FINISH -/

/-- The 23 digest bytes of a chain (R213). -/
def digestBytes (cs : CipherState) : List Byte := (bytesOfWords (chain64 cs).toList).take 23

theorem length_digestBytes (cs : CipherState) : (digestBytes cs).length = 23 := by simp [digestBytes]

theorem hashFinish_digb (s : State) : (hashFinish s).digb = digestBytes s.cipher ++ [0x00] :=
  bytes_maskLast (chain64 s.cipher)

theorem digestText_bytes (dig : Vector Word 6) :
    bytesOfWords (digestText dig).toList = b64Enc ((bytesOfWords dig.toList).take 23) ++ [0x00] :=
  bytesOfWords_wordsOfBytes (by simp)

theorem hashFinish_textb (s : State) : (hashFinish s).textb = b64Enc (digestBytes s.cipher) ++ [0x00] := by
  have htext : (hashFinish s).textb = b64Enc ((hashFinish s).digb.take 23) ++ [0x00] := digestText_bytes _
  rw [htext, hashFinish_digb, List.take_left' (length_digestBytes s.cipher)]

/-- FixedEq over 31 characters compares the two fields. -/
theorem fixedEq_fields {a b : List Byte} (ha : a.length = 32) (hb : b.length = 32) :
    fixedEq a b 31 = decide (a.take 31 = b.take 31) := by
  rw [Bool.eq_iff_iff, fixedEqIsEquality, decide_eq_true_eq]
  constructor
  · intro h
    refine List.ext_getElem (by simp [ha, hb]) fun k hka hkb => ?_
    have hk : k < 31 := by simp only [List.length_take] at hka; omega
    have heq := h k hk
    rw [List.getD_eq_getElem _ _ (by omega), List.getD_eq_getElem _ _ (by omega)] at heq
    simpa using heq
  · intro h k hk
    have heq := congrArg (·[k]?) h
    simp only [List.getElem?_take_of_lt hk] at heq
    rw [List.getD_eq_getElem?_getD, List.getD_eq_getElem?_getD, heq]

theorem length_refb (s : State) : s.refb.length = 32 := by simp [State.refb]

/-- What the FINISH step of HASH or VERIFY leaves, MATCH apart. -/
structure HashFinished (s t : State) : Prop where
  digb : t.digb = digestBytes s.cipher ++ [0x00]
  textb : t.textb = b64Enc (digestBytes s.cipher) ++ [0x00]
  cipher : t.cipher = CipherState.zero
  sliceCnt : t.sliceCnt = s.sliceCnt
  abortReq : t.abortReq = false
  errcode : t.errcode = s.errcode
  host : HostKept s t
  regs : ∀ r, r.inCipher = false → r.inDig = false → r.inText = false → r ≠ .status → t.regValue r = s.regValue r

theorem hashFinish_regValue {r : Reg} (hcipher : r.inCipher = false) (hdig : r.inDig = false) (htext : r.inText = false)
    (hstatus : r ≠ .status) (s : State) : (hashFinish s).regValue r = s.regValue r := by
  cases r with
  | p | s => cases hcipher
  | dig => cases hdig
  | textw => cases htext
  | status => exact absurd rfl hstatus
  | _ => rfl

theorem setMatch_regValue {r : Reg} (hstatus : r ≠ .status) (s : State) : (setMatch s).regValue r = s.regValue r := by
  cases r with
  | status => exact absurd rfl hstatus
  | _ => rfl

theorem completeOk_hashFinish_finished (s : State) : HashFinished s (completeOk (hashFinish s)) where
  digb := hashFinish_digb s
  textb := hashFinish_textb s
  cipher := rfl
  sliceCnt := rfl
  abortReq := rfl
  errcode := rfl
  host := ⟨rfl, rfl, rfl, rfl⟩
  regs r hcipher hdig htext hstatus := by
    rw [completeOk_regValue hstatus, hashFinish_regValue hcipher hdig htext hstatus]

theorem completeOk_setMatch_finished (s : State) : HashFinished s (completeOk (setMatch (hashFinish s))) where
  digb := hashFinish_digb s
  textb := hashFinish_textb s
  cipher := rfl
  sliceCnt := rfl
  abortReq := rfl
  errcode := rfl
  host := ⟨rfl, rfl, rfl, rfl⟩
  regs r hcipher hdig htext hstatus := by
    rw [completeOk_regValue hstatus, setMatch_regValue hstatus, hashFinish_regValue hcipher hdig htext hstatus]

/-- STATUS after the FINISH step; MATCH compares the text just written with the reference (R214). -/
theorem completeOk_setMatch_status (s : State) :
    (completeOk (setMatch (hashFinish s))).status =
      { s.status with
        busy := false
        done := true
        sched := .none
        matched := decide ((hashFinish s).textb.take 31 = s.refb.take 31) } := by
  have htext : (hashFinish s).textb.length = 32 := length_textb _
  have hmatch := fixedEq_fields htext (length_refb s)
  rw [← hmatch]
  rfl

/-- The FINISH step of HASH or VERIFY, with the MATCH of each. -/
theorem exec_hashVerify_finish {i : Instr} (hi : i = .hash ∨ i = .verify) {s : State} (hphase : s.phase = .finish) :
    ∃ t, exec i s = .next t ∧ HashFinished s t ∧
      t.status =
        { s.status with
          busy := false
          done := true
          sched := .none
          matched := if i = .verify then decide (t.textb.take 31 = s.refb.take 31) else s.status.matched } := by
  rcases hi with rfl | rfl
  · exact ⟨_, exec_hash_finish hphase, completeOk_hashFinish_finished s, rfl⟩
  · exact ⟨_, exec_verify_finish hphase, completeOk_setMatch_finished s, completeOk_setMatch_status s⟩

end Sys2Proof.Machine

open Sys2Proof Sys2Proof.Machine

/-- Settles O39, along the checks of START in their order. -/
theorem hashVerifyStartStep : Obligations.HashVerifyStartStep := by
  refine ⟨decodeWord_encode_toOption .hash, decodeWord_encode_toOption .verify, fun s i hi hphase => ?_⟩
  refine ⟨fun hcost => ?badCost, fun hlow hhigh hverify hfield => ?badReference, fun hlow hhigh hfield => ?starts⟩
  case badCost => exact ⟨_, exec_hashVerify_illegal hi hphase (costOk_eq_false hcost), raiseError_fails .costDomain s⟩
  case badReference =>
    subst hverify
    exact ⟨_, exec_verify_badReference hphase ((costOk_iff _).mpr ⟨hlow, hhigh⟩) hfield,
      raiseError_fails .digestGrammar s⟩
  case starts =>
    refine ⟨_, exec_hashVerify_start hi hphase ((costOk_iff _).mpr ⟨hlow, hhigh⟩) hfield, rfl, rfl, total_toNat hhigh,
      rfl, rfl, rfl, rfl, rfl, ⟨rfl, rfl, rfl, rfl⟩, fun _ hr hkept => hashStart_regValue hr hkept s⟩

/-- Settles O40: the step is `hashLoop`, which ends in three ways. -/
theorem hashVerifyLoopStep : Obligations.HashVerifyLoopStep := by
  intro s i hi hphase
  refine ⟨_, exec_hashVerify_loop hi hphase, hashLoop_iter s, hashLoop_host s,
    fun _ hr hkept => hashLoop_regValue hr hkept s, fun hgoes => ?goesOn, fun habort hends => ?aborts⟩
  case goesOn =>
    have h := hashLoop_iterated hgoes
    refine ⟨h.cipher, h.errcode, h.cur, h.abortReq, h.phase, ?_⟩
    split
    next hends => exact hashLoop_boundary hends (hgoes.resolve_right (not_not_intro hends))
    next hoff => exact hashLoop_offBoundary hoff
  case aborts =>
    rw [(hashLoop_eq s).2.1 hends habort]
    exact ⟨rfl, rfl, rfl, rfl, rfl⟩

/-- Settles O41: the chain's last byte is masked, its text written, and VERIFY compares 31 characters. -/
theorem hashVerifyFinishStep : Obligations.HashVerifyFinishStep := by
  intro s i hi hphase
  obtain ⟨t, hexec, h, hstatus⟩ := exec_hashVerify_finish hi hphase
  exact ⟨t, hexec, h.digb, h.textb, h.cipher, h.sliceCnt, h.abortReq, h.host, hstatus, h.regs⟩
end

section
/-! PROOFS. What every transition keeps: the counters (10_state.md R40, R41), OVR (R32), the invariant of the machine,
and the schedule in P and S (42_key_schedule.md R183). -/

namespace Sys2Proof.Machine

/-! ### Everything a host write can do (R54, R55, R113, R116) -/

/-- The results of a host write, the words it leaves in operands open. -/
inductive WriteEffect (off : Nat) (v : Word) (s : State) : State → Prop where
  | ignored : WriteEffect off v s s
  | accepts (hidle : s.status.busy = false) (i : Instr) (hi : decodeWord v = .ok i) :
      WriteEffect off v s (acceptCommand v s)
  | rejects (hidle : s.status.busy = false) :
      WriteEffect off v s { s with status := { s.status.clearOutcome with err := true }, errcode := .illegalCmd }
  | requestsAbort (hbusy : s.status.busy = true) : WriteEffect off v s { s with abortReq := true }
  | drops (hbusy : s.status.busy = true) : WriteEffect off v s (dropWrite s)
  | clearsFlags (hreg : regAt off = some .status) : WriteEffect off v s { s with status := s.status.clearW1C v }
  | writesIrqEn : WriteEffect off v s { s with irqEn := IrqEnable.ofWord v }
  | writesOperand (hidle : s.status.busy = false) (cost slice blkL blkR : Word) (dig : Vector Word 6)
      (textw refw : Vector Word 8) :
      WriteEffect off v s
        { s with cost := cost, slice := slice, blkL := blkL, blkR := blkR, dig := dig, textw := textw, refw := refw }
  | breaksSchedule (hidle : s.status.busy = false) (pwlen : Word) (hpwlen : pwlen = s.pwlen ∨ pwlen = pwlenWarl v)
      (cs : CipherState) (pww : Vector Word 18) (saltw : Vector Word 4) :
      WriteEffect off v s
        (setSched .none { s with cipher := cs, pww := pww, pwlen := pwlen, saltw := saltw })

theorem issueIdle_effect (off : Nat) (v : Word) {s : State} (hidle : s.status.busy = false) :
    WriteEffect off v s (issueIdle v s) := by
  rcases issueIdle_cases v s with ⟨i, hi, -⟩ | ⟨-, heq⟩
  · exact issueIdle_legal hi s ▸ .accepts hidle i hi
  · exact heq ▸ .rejects hidle

theorem issueBusy_effect (off : Nat) (v : Word) {s : State} (hbusy : s.status.busy = true) :
    WriteEffect off v s (issueBusy v s) := by
  rcases issueBusy_cases v s with heq | heq
  · exact heq ▸ .requestsAbort hbusy
  · exact heq ▸ .drops hbusy

theorem writeIdle_effect {off : Nat} {r : Reg} (hreg : regAt off = some r) (v : Word) {s : State}
    (hidle : s.status.busy = false) : WriteEffect off v s (writeIdle s r v) := by
  cases r with
  | id | version | errcode | iter | iterTotal => exact .ignored
  | cmd => exact issueIdle_effect off v hidle
  | status => exact .clearsFlags hreg
  | irqEn => exact .writesIrqEn
  | cost | slice | blkL | blkR | dig | textw | refw => exact .writesOperand hidle _ _ _ _ _ _ _
  | pwlen => exact .breaksSchedule hidle _ (.inr rfl) _ _ _
  | pww | saltw | p | s => exact .breaksSchedule hidle _ (.inl rfl) _ _ _

theorem writeBusy_effect {off : Nat} {r : Reg} (hreg : regAt off = some r) (v : Word) {s : State}
    (hbusy : s.status.busy = true) : WriteEffect off v s (writeBusy s r v) := by
  cases r with
  | id | version | errcode | iter | iterTotal => exact .ignored
  | cmd => exact issueBusy_effect off v hbusy
  | status => exact .clearsFlags hreg
  | irqEn => exact .writesIrqEn
  | _ => exact .drops hbusy

theorem hostWrite_effect (s : State) (off : Nat) (v : Word) : WriteEffect off v s (s.hostWrite off v) := by
  cases hreg : regAt off with
  | none =>
    rw [hostWrite_reserved hreg]
    exact .ignored
  | some r =>
    cases hbusy : s.status.busy with
    | true =>
      have heq : s.hostWrite off v = writeBusy s r v := by simp [State.hostWrite, hreg, hbusy]
      exact heq ▸ writeBusy_effect hreg v hbusy
    | false =>
      have heq : s.hostWrite off v = writeIdle s r v := by simp [State.hostWrite, hreg, hbusy]
      exact heq ▸ writeIdle_effect hreg v hbusy

/-! ### ITER and ITER_TOTAL (R40, R41) -/

/-- What a transition can do to the two counters. -/
def CountersMove (s t : State) : Prop :=
  (t.iter = s.iter ∧ t.iterTotal = s.iterTotal) ∨ (t.iter = s.iter + 1 ∧ t.iterTotal = s.iterTotal) ∨
    (t.iter = 0 ∧ (t.iterTotal = 0 ∨ t.iterTotal.toNat = 2 ^ s.cost.toNat))

theorem startedTotal_toNat {s : State} (hcost : costOk s.cost = true) :
    (startSchedule s).iterTotal.toNat = 2 ^ s.cost.toNat :=
  total_toNat ((costOk_iff s.cost).mp hcost).2

theorem ExecEffect.counters {s t : State} {i : Instr} (h : ExecEffect s i t) : CountersMove s t := by
  cases h with
  | scrubs => exact .inr (.inr ⟨rfl, .inl rfl⟩)
  | startsSchedule hcost => exact .inr (.inr ⟨rfl, .inr (startedTotal_toNat hcost)⟩)
  | startsHash _ hcost => exact .inr (.inr ⟨rfl, .inr (startedTotal_toNat hcost)⟩)
  | yields | aborts | endsCommand | advances => exact .inr (.inl ⟨rfl, rfl⟩)
  | _ => exact .inl ⟨rfl, rfl⟩

theorem WriteEffect.counters {off : Nat} {v : Word} {s t : State} (h : WriteEffect off v s t) : CountersMove s t := by
  cases h <;> exact .inl ⟨rfl, rfl⟩

/-! ### OVR (R32) -/

theorem WriteEffect.ovr_set {off : Nat} {v : Word} {s t : State} (h : WriteEffect off v s t)
    (hclear : s.status.ovr = false) (hset : t.status.ovr = true) : s.status.busy = true := by
  cases h with
  | drops hbusy => exact hbusy
  | clearsFlags => simp [Status.clearW1C, hclear] at hset
  | _ => exact absurd (hclear.symm.trans hset) (by decide)

theorem WriteEffect.ovr_cleared {off : Nat} {v : Word} {s t : State} (h : WriteEffect off v s t)
    (halign : off % 4 = 0) (hset : s.status.ovr = true) (hclear : t.status.ovr = false) :
    off = 0x000C ∧ v.getLsbD 5 = true := by
  cases h with
  | drops => cases hclear
  | clearsFlags hreg =>
    exact ⟨(offset_of_regAt halign hreg).symm, by simpa [Status.clearW1C, hset] using hclear⟩
  | _ => exact absurd (hset.symm.trans hclear) (by decide)

theorem aligned_of_accessRefusal {a : Access} (h : accessRefusal a = none) : a.off % 4 = 0 := by
  by_contra hoff
  exact (accessRefusal_ne_none_iff a).mpr (.inr (.inl hoff)) h

/-! ### The invariant under changes of the host's own state -/

theorem popTurn_inv {s : State} (h : s.Inv) : s.popTurn.Inv := { h with }

theorem withHost_inv {s : State} (h : s.Inv) (p : List Stmt) (r : List Word) (a : Bool) : (s.withHost p r a).Inv :=
  { h with }

theorem withProgram_inv {s : State} (h : s.Inv) (p : List Stmt) : ({ s with program := p } : State).Inv := { h with }

theorem reset_inv : State.reset.Inv where
  pwlen_le := Nat.zero_le _
  busy_cur := nofun
  idle_seq _ := ⟨rfl, rfl, rfl⟩
  busy_flags := nofun
  one_outcome := nofun
  done_code _ := rfl
  err_code := nofun
  total_pow := .inl rfl
  iter_le := le_rfl
  active_lt := nofun
  complete_eq := nofun
  loop_cmd := nofun
  finish_cmd := nofun
  slice_zero _ := rfl
  slice_lt := nofun

theorem resetTurn_inv (s : State) : (resetTurn s).Inv := { reset_inv with }

/-! ### The invariant under a host write -/

theorem pwlenWarl_le (v : Word) : (pwlenWarl v).toNat ≤ 72 := by
  unfold pwlenWarl
  split
  next h => exact h
  next => exact le_rfl

/-- While idle the sequencer is at START. -/
theorem phase_of_idle {s : State} (h : s.Inv) (hidle : s.status.busy = false) : s.phase = .start := by
  obtain ⟨-, hphase, -⟩ := h.idle_seq hidle
  exact hphase

theorem sliceCnt_of_idle {s : State} (h : s.Inv) (hidle : s.status.busy = false) : s.sliceCnt = 0 :=
  h.slice_zero (by rw [phase_of_idle h hidle]; decide)

theorem acceptCommand_inv {s : State} (h : s.Inv) (hidle : s.status.busy = false) {v : Word} {i : Instr}
    (hi : decodeWord v = .ok i) : (acceptCommand v s).Inv :=
  have hslice : s.sliceCnt = 0 := sliceCnt_of_idle h hidle
  { h with
    busy_cur := fun _ => Option.isSome_iff_exists.mpr ⟨i, decodeWord_opcode hi⟩
    idle_seq := nofun
    busy_flags := fun _ => ⟨rfl, rfl, rfl, rfl⟩
    one_outcome := nofun
    done_code := nofun
    err_code := nofun
    loop_cmd := nofun
    finish_cmd := nofun
    slice_zero := fun _ => hslice
    slice_lt := nofun }

theorem rejectCommand_inv {s : State} (h : s.Inv) (hidle : s.status.busy = false) :
    ({ s with status := { s.status.clearOutcome with err := true }, errcode := .illegalCmd } : State).Inv :=
  { h with
    busy_flags := fun hbusy => absurd (hidle.symm.trans hbusy) nofun
    one_outcome := nofun
    done_code := nofun
    err_code := nofun }

theorem done_of_clearW1C {st : Status} {w : Word} (h : (st.clearW1C w).done = true) : st.done = true :=
  (Bool.and_eq_true_iff.mp h).1

theorem err_of_clearW1C {st : Status} {w : Word} (h : (st.clearW1C w).err = true) : st.err = true :=
  (Bool.and_eq_true_iff.mp h).1

/-- Flags are only cleared, so no flag is set that was not. -/
theorem clearW1C_inv {s : State} (h : s.Inv) (v : Word) :
    ({ s with status := s.status.clearW1C v } : State).Inv where
  __ := h
  busy_flags hbusy := by
    obtain ⟨hdone, herr, hmatched, hcode⟩ := h.busy_flags hbusy
    exact ⟨by simp [Status.clearW1C, hdone], by simp [Status.clearW1C, herr], hmatched, hcode⟩
  one_outcome hboth := h.one_outcome (hboth.imp done_of_clearW1C err_of_clearW1C)
  done_code hdone := h.done_code (hdone.imp_left done_of_clearW1C)
  err_code herr := h.err_code (err_of_clearW1C herr)

theorem WriteEffect.inv {off : Nat} {v : Word} {s t : State} (h : WriteEffect off v s t) (hs : s.Inv) : t.Inv := by
  cases h with
  | ignored => exact hs
  | accepts hidle i hi => exact acceptCommand_inv hs hidle hi
  | rejects hidle => exact rejectCommand_inv hs hidle
  | requestsAbort hbusy => exact { hs with idle_seq := fun hidle => absurd (hbusy.symm.trans hidle) nofun }
  | drops => exact { hs with }
  | clearsFlags => exact clearW1C_inv hs v
  | writesIrqEn => exact { hs with }
  | writesOperand hidle =>
    have hstart := phase_of_idle hs hidle
    exact { hs with slice_lt := fun hloop => absurd (hstart.symm.trans hloop) nofun }
  | breaksSchedule hidle pwlen hpwlen =>
    have hstart := phase_of_idle hs hidle
    exact
      { hs with
        pwlen_le := by
          rcases hpwlen with rfl | rfl
          · exact hs.pwlen_le
          · exact pwlenWarl_le v
        active_lt := nofun
        complete_eq := nofun
        loop_cmd := fun hloop => absurd (hstart.symm.trans hloop) nofun
        finish_cmd := fun hfinish => absurd (hstart.symm.trans hfinish) nofun }

/-! ### The clauses about the data registers -/

/-- The clauses of the invariant about PWLEN, ITER, ITER_TOTAL and SCHED. -/
structure CountsWell (s : State) : Prop where
  pwlen_le : s.pwlen.toNat ≤ 72
  total_pow : s.iterTotal = 0 ∨ ∃ c, 4 ≤ c ∧ c ≤ 31 ∧ s.iterTotal.toNat = 2 ^ c
  iter_le : s.iter.toNat ≤ s.iterTotal.toNat
  active_lt : s.status.sched = .active → s.iter.toNat < s.iterTotal.toNat
  complete_eq : s.status.sched = .complete → s.iter = s.iterTotal

theorem State.Inv.countsWell {s : State} (h : s.Inv) : CountsWell s := { h with }

/-- Breaking the schedule keeps the clauses. -/
theorem CountsWell.setSched_none {s : State} (h : CountsWell s) : CountsWell (setSched .none s) :=
  { h with active_lt := nofun, complete_eq := nofun }

theorem scrubData_countsWell (s : State) : CountsWell (setSched .none (scrubData s)) where
  pwlen_le := Nat.zero_le _
  total_pow := .inl rfl
  iter_le := le_rfl
  active_lt := nofun
  complete_eq := nofun

/-- A schedule begins with a legal cost, and so with at least one iteration to do. -/
theorem startSchedule_countsWell {s : State} (h : CountsWell s) (hcost : costOk s.cost = true) :
    CountsWell (startSchedule s) where
  pwlen_le := h.pwlen_le
  total_pow := by
    obtain ⟨hlow, hhigh⟩ := (costOk_iff _).mp hcost
    exact .inr ⟨s.cost.toNat, hlow, hhigh, startedTotal_toNat hcost⟩
  iter_le := Nat.zero_le _
  active_lt _ := by
    rw [startedTotal_toNat hcost]
    exact Nat.two_pow_pos _
  complete_eq := nofun

theorem iter_succ_toNat {a b : Word} (h : a.toNat < b.toNat) : (a + 1).toNat = a.toNat + 1 := by
  bv_omega

/-- An iteration that leaves some to do. -/
theorem iterate_countsWell {s : State} (h : CountsWell s) (hactive : s.status.sched = .active)
    (hmore : ¬s.iter + 1 = s.iterTotal) : CountsWell (iterate s) := by
  have hlt := h.active_lt hactive
  have hmore' : (s.iter + 1).toNat < s.iterTotal.toNat := by bv_omega
  exact
    { h with
      iter_le := hmore'.le
      active_lt := fun _ => hmore'
      complete_eq := fun hcomplete => absurd (hactive.symm.trans hcomplete) nofun }

/-- At a boundary SCHED says whether iterations are left. -/
theorem markBoundary_countsWell {s : State} (h : CountsWell s) (hactive : s.status.sched = .active) :
    CountsWell (markBoundary (iterate s)) := by
  by_cases hlast : s.iter + 1 = s.iterTotal
  · have hsched : (markBoundary (iterate s)).status.sched = .complete := if_pos hlast
    exact
      { h with
        iter_le := (congrArg BitVec.toNat hlast).le
        active_lt := fun hsched' => absurd (hsched.symm.trans hsched') nofun
        complete_eq := fun _ => hlast }
  · have hsched : (markBoundary (iterate s)).status.sched = s.status.sched := if_neg hlast
    have hcounts := iterate_countsWell h hactive hlast
    exact { hcounts with active_lt := hsched ▸ hcounts.active_lt, complete_eq := hsched ▸ hcounts.complete_eq }

/-! ### The invariant after the end of a command -/

/-- A command that succeeds from flags that show no outcome. -/
theorem completeOk_inv {s : State} (h : CountsWell s) (herr : s.status.err = false) (hcode : s.errcode = .none)
    (hslice : s.sliceCnt = 0) : (completeOk s).Inv :=
  { h with
    busy_cur := nofun
    idle_seq := fun _ => ⟨rfl, rfl, rfl⟩
    busy_flags := nofun
    one_outcome := fun hboth => absurd (herr.symm.trans hboth.2) nofun
    done_code := fun _ => hcode
    err_code := fun herr' => absurd (herr.symm.trans herr') nofun
    loop_cmd := nofun
    finish_cmd := nofun
    slice_zero := fun _ => hslice
    slice_lt := nofun }

/-- A command that fails from flags that show no outcome. -/
theorem raiseError_inv {code : ErrCode} {s : State} (hcode : code ≠ .none) (h : CountsWell s)
    (hdone : s.status.done = false) (hmatched : s.status.matched = false) (hslice : s.sliceCnt = 0) :
    (raiseError code s).Inv :=
  { h with
    busy_cur := nofun
    idle_seq := fun _ => ⟨rfl, rfl, rfl⟩
    busy_flags := nofun
    one_outcome := fun hboth => absurd (hdone.symm.trans hboth.1) nofun
    done_code := fun hdone' => by
      rcases hdone' with hdone' | hmatched'
      · exact absurd (hdone.symm.trans hdone') nofun
      · exact absurd (hmatched.symm.trans hmatched') nofun
    err_code := fun _ => hcode
    loop_cmd := nofun
    finish_cmd := nofun
    slice_zero := fun _ => hslice
    slice_lt := nofun }

/-! ### The invariant inside a command -/

/-- A command of one step is never past START. -/
theorem phase_of_oneStep {s : State} (h : s.Inv) {i : Instr} (hi : decodeOpcode s.cur = some i)
    (hone : i ∉ [Instr.eksContinue, .hash, .verify]) : s.phase = .start := by
  have hcur (hcur : s.cur = 0x14 ∨ s.cur = 0x21 ∨ s.cur = 0x22) : i ∈ [Instr.eksContinue, .hash, .verify] := by
    rcases hcur with hcur | hcur | hcur <;> rw [hcur] at hi <;> cases hi <;> decide
  cases hp : s.phase with
  | start => rfl
  | loop => exact absurd (hcur (h.loop_cmd hp).1) hone
  | finish => exact absurd (hcur (.inr (h.finish_cmd hp).1)) hone

/-- A step that iterates does so on an active schedule. -/
theorem active_of_iterates {s : State} (h : s.Inv) {i : Instr} (hi : Iterates i s) : s.status.sched = .active := by
  rcases hi with ⟨-, hphase⟩ | ⟨-, -, hsched⟩
  · exact (h.loop_cmd hphase).2
  · exact hsched

/-- A step that iterates does so before the end of its slice. -/
theorem slice_open_of_iterates {s : State} (h : s.Inv) {i : Instr} (hi : Iterates i s) :
    s.slice = 0 ∨ s.sliceCnt.toNat < s.slice.toNat := by
  rcases hi with ⟨-, hphase⟩ | ⟨-, hphase, -⟩
  · exact h.slice_lt hphase
  · have hzero : s.sliceCnt = 0 := h.slice_zero (by rw [hphase]; decide)
    rw [hzero]
    bv_omega

/-- The opcodes of the commands of several steps. -/
theorem cur_of_hashVerify {s : State} {i : Instr} (hi : decodeOpcode s.cur = some i) (hhash : i = .hash ∨ i = .verify) :
    s.cur = 0x21 ∨ s.cur = 0x22 := by
  rcases hhash with rfl | rfl
  · exact .inl (decodeOpcode_eq hi)
  · exact .inr (decodeOpcode_eq hi)

theorem cur_of_iterates {s : State} {i : Instr} (hi : decodeOpcode s.cur = some i) (hiter : Iterates i s) :
    s.cur = 0x14 ∨ s.cur = 0x21 ∨ s.cur = 0x22 := by
  have hmem : i ∈ [Instr.eksContinue, .hash, .verify] := by
    rcases hiter with ⟨hmem, -⟩ | ⟨rfl, -⟩
    · exact hmem
    · decide
  rcases List.mem_cons.mp hmem with rfl | hhash
  · exact .inl (decodeOpcode_eq hi)
  · exact .inr (cur_of_hashVerify hi (by simpa using hhash))

/-- The command goes on: STATUS shows no outcome that it did not show, and CUR is as before. -/
structure GoesOn (s t : State) : Prop where
  busy : t.status.busy = s.status.busy
  done : t.status.done = s.status.done
  err : t.status.err = s.status.err
  matched : t.status.matched = s.status.matched
  errcode : t.errcode = s.errcode
  cur : t.cur = s.cur

/-- A running command that goes on: the clauses about PHASE and SLICE_CNT are left to show. -/
theorem inv_of_goesOn {s t : State} (h : s.Inv) (hbusy : s.status.busy = true) (hcounts : CountsWell t)
    (hgoes : GoesOn s t)
    (loop_cmd : t.phase = .loop → (t.cur = 0x14 ∨ t.cur = 0x21 ∨ t.cur = 0x22) ∧ t.status.sched = .active)
    (finish_cmd : t.phase = .finish → (t.cur = 0x21 ∨ t.cur = 0x22) ∧ t.status.sched = .complete)
    (slice_zero : t.phase ≠ .loop → t.sliceCnt = 0)
    (slice_lt : t.phase = .loop → t.slice = 0 ∨ t.sliceCnt.toNat < t.slice.toNat) : t.Inv where
  __ := hcounts
  busy_cur _ := by
    rw [hgoes.cur]
    exact h.busy_cur hbusy
  idle_seq hidle := absurd (hbusy.symm.trans (hgoes.busy.symm.trans hidle)) nofun
  busy_flags _ := by
    rw [hgoes.done, hgoes.err, hgoes.matched, hgoes.errcode]
    exact h.busy_flags hbusy
  one_outcome := by
    rw [hgoes.done, hgoes.err]
    exact h.one_outcome
  done_code := by
    rw [hgoes.done, hgoes.matched, hgoes.errcode]
    exact h.done_code
  err_code := by
    rw [hgoes.err, hgoes.errcode]
    exact h.err_code
  loop_cmd := loop_cmd
  finish_cmd := finish_cmd
  slice_zero := slice_zero
  slice_lt := slice_lt

theorem hashStart_inv {s : State} (h : s.Inv) (hbusy : s.status.busy = true) (hcmd : s.cur = 0x21 ∨ s.cur = 0x22)
    (hcost : costOk s.cost = true) : (hashStart s).Inv := by
  have hcounts : CountsWell (hashStart s) := { startSchedule_countsWell h.countsWell hcost with }
  refine inv_of_goesOn h hbusy hcounts ⟨rfl, rfl, rfl, rfl, rfl, rfl⟩ (fun _ => ⟨.inr hcmd, rfl⟩) nofun
    (fun hloop => absurd rfl hloop) fun _ => ?_
  change s.slice = 0 ∨ 0 < s.slice.toNat
  bv_omega

theorem yield_inv {s : State} (h : s.Inv) (hbusy : s.status.busy = true) {i : Instr}
    (hi : decodeOpcode s.cur = some i) (hiter : Iterates i s) (hoff : ¬s.endsSlice) :
    ({ iterate s with phase := .loop } : State).Inv := by
  have hactive := active_of_iterates h hiter
  have hcmd := cur_of_iterates hi hiter
  obtain ⟨hslice, hmore⟩ := not_or.mp hoff
  have hcounts : CountsWell { iterate s with phase := .loop } := { iterate_countsWell h.countsWell hactive hmore with }
  refine inv_of_goesOn h hbusy hcounts ⟨rfl, rfl, rfl, rfl, rfl, rfl⟩ (fun _ => ⟨hcmd, hactive⟩) nofun
    (fun hloop => absurd rfl hloop) fun _ => ?_
  have hopen := slice_open_of_iterates h hiter
  change s.slice = 0 ∨ (s.sliceCnt + 1).toNat < s.slice.toNat
  rw [or_iff_not_imp_left] at hopen ⊢
  intro hne
  have hlt := hopen hne
  have hnext : s.sliceCnt + 1 ≠ s.slice := fun heq => hslice ⟨hne, heq⟩
  bv_omega

theorem advance_inv {s : State} (h : s.Inv) (hbusy : s.status.busy = true) {i : Instr}
    (hi : decodeOpcode s.cur = some i) (hiter : Iterates i s) (hhash : i = .hash ∨ i = .verify) :
    (hashAdvance (markBoundary (iterate s))).Inv := by
  have hactive := active_of_iterates h hiter
  have hcmd := cur_of_iterates hi hiter
  have hcounts : CountsWell (hashAdvance (markBoundary (iterate s))) :=
    { markBoundary_countsWell h.countsWell hactive with }
  refine inv_of_goesOn h hbusy hcounts ⟨rfl, rfl, rfl, rfl, rfl, rfl⟩ (fun hloop => ⟨hcmd, ?_⟩)
    (fun hfinish => ⟨cur_of_hashVerify hi hhash, ?_⟩) (fun _ => rfl) fun _ => ?_
  · change (if s.iter + 1 = s.iterTotal then Phase.finish else .loop) = .loop at hloop
    change (if s.iter + 1 = s.iterTotal then Sched.complete else s.status.sched) = .active
    split_ifs at hloop ⊢
    exact hactive
  · change (if s.iter + 1 = s.iterTotal then Phase.finish else .loop) = .finish at hfinish
    change (if s.iter + 1 = s.iterTotal then Sched.complete else s.status.sched) = .complete
    split_ifs at hfinish ⊢
    rfl
  · change s.slice = 0 ∨ 0 < s.slice.toNat
    bv_omega

/-- One engine step keeps the invariant. -/
theorem ExecEffect.inv {s t : State} {i : Instr} (h : ExecEffect s i t) (hs : s.Inv) (hbusy : s.status.busy = true)
    (hi : decodeOpcode s.cur = some i) : t.Inv := by
  obtain ⟨hdone, herr, hmatched, hcode⟩ := hs.busy_flags hbusy
  have hcounts := hs.countsWell
  have hslice (hstart : s.phase = .start) : s.sliceCnt = 0 := hs.slice_zero (by rw [hstart]; decide)
  have hone (hone : i ∉ [Instr.eksContinue, .hash, .verify]) : s.sliceCnt = 0 := hslice (phase_of_oneStep hs hi hone)
  cases h with
  | fails code hne hstart =>
    refine raiseError_inv hne hcounts hdone hmatched ?_
    by_cases hsteps : i ∈ [Instr.eksContinue, .hash, .verify]
    · exact hslice (hstart hsteps)
    · exact hone hsteps
  | writesCipher hmem =>
    exact completeOk_inv { hcounts.setSched_none with } herr hcode (hone (by fin_cases hmem <;> decide))
  | writesBlk => exact completeOk_inv { hcounts with } herr hcode (hone (by decide))
  | scrubs => exact completeOk_inv (scrubData_countsWell s) herr hcode rfl
  | onlyCompletes => exact completeOk_inv hcounts herr hcode (hone (by decide))
  | writesDig hmem =>
    exact completeOk_inv { hcounts with } herr hcode (hone (by fin_cases hmem <;> decide))
  | writesText hmem =>
    exact completeOk_inv { hcounts with } herr hcode (hone (by fin_cases hmem <;> decide))
  | writesSalt => exact completeOk_inv { hcounts.setSched_none with } herr hcode (hone (by decide))
  | startsSchedule hcost => exact completeOk_inv (startSchedule_countsWell hcounts hcost) herr hcode rfl
  | startsHash hhash hcost => exact hashStart_inv hs hbusy (cur_of_hashVerify hi hhash) hcost
  | yields hiter hoff => exact yield_inv hs hbusy hi hiter hoff
  | aborts hiter =>
    have hmark := markBoundary_countsWell hcounts (active_of_iterates hs hiter)
    exact raiseError_inv nofun { hmark.setSched_none with } hdone hmatched rfl
  | endsCommand hiter =>
    exact completeOk_inv (markBoundary_countsWell hcounts (active_of_iterates hs hiter)) herr hcode rfl
  | advances hiter hhash => exact advance_inv hs hbusy hi hiter hhash
  | finishesHash hfinish =>
    exact completeOk_inv { hcounts.setSched_none with } herr hcode (hs.slice_zero (by rw [hfinish]; decide))
  | finishesVerify hfinish =>
    exact completeOk_inv { hcounts.setSched_none with } herr hcode (hs.slice_zero (by rw [hfinish]; decide))

/-- Every transition keeps the invariant. -/
theorem step_inv {s t : State} (h : s.Inv) (hstep : step s = .next t) : t.Inv := by
  rcases step_cases hstep with ⟨-, rfl⟩ | ⟨-, rfl⟩ | ⟨-, -, rfl⟩ | ⟨-, hbusy, i, hi, hexec⟩ | ⟨-, hhost⟩
  · exact h
  · exact resetTurn_inv _
  · exact popTurn_inv h
  · exact (effect_of_exec hexec).inv (popTurn_inv h) hbusy hi
  · rcases hostTurn_cases hhost with ⟨p, r, a, rfl, -⟩ | ⟨off, v, rest, -, -, rfl⟩
    · exact withHost_inv (popTurn_inv h) p r a
    · exact (hostWrite_effect _ off v).inv (withProgram_inv (popTurn_inv h) rest)

/-! ### The schedule in P and S (R183) -/

/-- P and S are ITER iterations of the schedule of the key and salt in the registers. -/
def HoldsSchedule (s : State) : Prop :=
  s.cipher = (iterateCipher s.keyBytes s.saltb)^[s.iter.toNat] (expandSalted s.keyBytes s.saltb romCipher)

/-- An iteration that does not wrap ITER. -/
theorem HoldsSchedule.iterate {s : State} (h : HoldsSchedule s) (hiter : (s.iter + 1).toNat = s.iter.toNat + 1) :
    HoldsSchedule (iterate s) := by
  rw [HoldsSchedule, iterate_cipher, h, iterate_iter, hiter, Function.iterate_succ_apply']
  rfl

theorem startSchedule_holds (s : State) : HoldsSchedule (startSchedule s) := rfl

theorem ExecEffect.holdsSchedule {s t : State} {i : Instr} (h : ExecEffect s i t) (hs : s.Inv)
    (hheld : s.status.sched ≠ .none → HoldsSchedule s) (hsched : t.status.sched ≠ .none) : HoldsSchedule t := by
  have hnext (hi : Iterates i s) : HoldsSchedule (Machine.iterate s) := by
    have hactive := active_of_iterates hs hi
    exact (hheld (by rw [hactive]; decide)).iterate (iter_succ_toNat (hs.active_lt hactive))
  cases h with
  | fails | writesBlk | onlyCompletes | writesDig | writesText => exact hheld hsched
  | writesCipher | scrubs | writesSalt | aborts | finishesHash | finishesVerify => exact absurd rfl hsched
  | startsSchedule | startsHash => exact startSchedule_holds s
  | yields hi | advances hi | endsCommand hi => exact hnext hi

theorem WriteEffect.holdsSchedule {off : Nat} {v : Word} {s t : State} (h : WriteEffect off v s t)
    (hheld : s.status.sched ≠ .none → HoldsSchedule s) (hsched : t.status.sched ≠ .none) : HoldsSchedule t := by
  cases h with
  | breaksSchedule => exact absurd rfl hsched
  | _ => exact hheld hsched

/-! ### Runs within the device contract (R84, R300) -/

theorem accessStep_of_admitted {a : Access} (h : (accessRefusal a).isNone = true) (s : State) :
    accessStep a s = .next (performAccess a s) := by
  simp only [accessStep, Option.isNone_iff_eq_none.mp h]

theorem checkStep_of_admitted {off : Nat} (h : (accessRefusal (.read off 4)).isNone = true) (mask v : Word)
    (s : State) : ∃ t, checkStep off mask v s = .next t := by
  simp only [checkStep, Option.isNone_iff_eq_none.mp h]
  exact ⟨_, rfl⟩

/-- A host whose next statement is within the contract is not refused. -/
theorem hostTurn_of_admitted {s : State} (h : admittedProgram s.program = true) : ∃ t, hostTurn s = .next t := by
  cases hp : s.program with
  | nil => exact ⟨s, by simp only [hostTurn, hp]⟩
  | cons stmt rest =>
    rw [hp, admittedProgram, List.all_cons, Bool.and_eq_true] at h
    obtain ⟨hstmt, -⟩ := h
    cases stmt with
    | access a =>
      simp only [hostTurn, hp]
      exact ⟨_, accessStep_of_admitted hstmt _⟩
    | chk off v =>
      simp only [hostTurn, hp]
      exact checkStep_of_admitted hstmt _ _ _
    | chkm off mask v =>
      simp only [hostTurn, hp]
      exact checkStep_of_admitted hstmt _ _ _
    | wait =>
      simp only [hostTurn, hp]
      split
      · exact ⟨_, rfl⟩
      · exact ⟨_, rfl⟩

theorem admittedProgram_tail {p : List Stmt} (h : admittedProgram p = true) : admittedProgram p.tail = true := by
  rw [admittedProgram, List.all_eq_true] at h ⊢
  exact fun stmt hmem => h stmt (List.mem_of_mem_tail hmem)

/-- The host's turn leaves its program or drops the first statement. -/
theorem hostTurn_program {s t : State} (h : hostTurn s = .next t) :
    t.program = s.program ∨ t.program = s.program.tail := by
  rcases hostTurn_cases h with ⟨p, r, a, rfl, hp⟩ | ⟨off, v, rest, hp, -, rfl⟩
  · exact hp
  · right
    rw [(hostWrite_hostKept _ off v).program, hp, List.tail_cons]

theorem admittedProgram_of_hostTurn {s t : State} (hstep : hostTurn s = .next t)
    (h : admittedProgram s.program = true) : admittedProgram t.program = true := by
  rcases hostTurn_program hstep with hp | hp <;> rw [hp]
  · exact h
  · exact admittedProgram_tail h

/-- The invariant keeps EKS_CONTINUE from FINISH. -/
theorem phase_of_eksContinue {s : State} (h : s.Inv) (hcur : s.cur = 0x14) : s.phase ≠ .finish := by
  intro hfinish
  have hcmd := (h.finish_cmd hfinish).1
  rw [hcur] at hcmd
  exact absurd hcmd (by decide)

/-- With the invariant the engine's turn does not fault, and leaves the host's program. -/
theorem engineTurn_of_inv {s : State} (h : s.Inv) : ∃ t, engineTurn s = .next t ∧ t.program = s.program := by
  cases hbusy : s.status.busy with
  | false => exact ⟨s, by simp only [engineTurn, hbusy, Bool.false_eq_true, if_false], rfl⟩
  | true =>
    obtain ⟨i, hi⟩ := Option.isSome_iff_exists.mp (h.busy_cur hbusy)
    have hphase (heks : i = .eksContinue) : s.phase ≠ .finish := by
      subst heks
      exact phase_of_eksContinue h (decodeOpcode_eq hi)
    obtain ⟨t, hexec, heffect⟩ := exec_effect i s hphase
    exact ⟨t, (engineTurn_busy hbusy hi).trans hexec, heffect.hostKept.program⟩

end Sys2Proof.Machine

open Sys2Proof Sys2Proof.Machine

/-- Settles O56, along what each of engine, host and reset can do. -/
theorem iterationCountersMoveAsStated : Obligations.IterationCountersMoveAsStated := by
  intro s t hstep
  rcases step_cases hstep with ⟨-, rfl⟩ | ⟨-, rfl⟩ | ⟨-, -, rfl⟩ | ⟨-, -, i, -, hexec⟩ | ⟨-, hhost⟩
  · exact .inl ⟨rfl, rfl⟩
  · exact .inr (.inr ⟨rfl, .inl rfl⟩)
  · exact .inl ⟨rfl, rfl⟩
  · exact (effect_of_exec hexec).counters
  · rcases hostTurn_cases hhost with ⟨p, r, a, rfl, -⟩ | ⟨off, v, rest, -, -, rfl⟩
    · exact .inl ⟨rfl, rfl⟩
    · exact (hostWrite_effect _ off v).counters

/-- Settles O18: of what a transition can do a dropped write alone sets OVR, and a write to STATUS or reset alone clears
it. -/
theorem ovrSetAndClearedOnlyAsStated : Obligations.OvrSetAndClearedOnlyAsStated := by
  intro s t hstep
  have hsame (hovr : t.status.ovr = s.status.ovr) (P Q : Prop) :
      (s.status.ovr = false → t.status.ovr = true → P) ∧ (s.status.ovr = true → t.status.ovr = false → Q) := by
    rw [hovr]
    exact ⟨fun hclear hset => absurd (hclear.symm.trans hset) nofun,
      fun hset hclear => absurd (hset.symm.trans hclear) nofun⟩
  rcases step_cases hstep with ⟨-, rfl⟩ | ⟨hturn, rfl⟩ | ⟨-, -, rfl⟩ | ⟨-, -, i, -, hexec⟩ | ⟨hturn, hhost⟩
  · exact hsame rfl _ _
  · exact ⟨fun _ hset => absurd hset nofun, fun _ _ => .inl hturn⟩
  · exact hsame rfl _ _
  · obtain ⟨-, -, -, hovr⟩ := (effect_of_exec hexec).keeps_host_registers
    exact hsame hovr _ _
  · rcases hostTurn_cases hhost with ⟨p, r, a, rfl, -⟩ | ⟨off, v, rest, hprog, haccess, rfl⟩
    · exact hsame rfl _ _
    · have heffect := hostWrite_effect { s.popTurn with program := rest } off v
      have halign : off % 4 = 0 := aligned_of_accessRefusal haccess
      refine ⟨fun hclear hset => ⟨hturn, heffect.ovr_set hclear hset, off, v, rest, hprog⟩, fun hset hclear => ?_⟩
      obtain ⟨rfl, hbit⟩ := heffect.ovr_cleared halign hset hclear
      exact .inr ⟨hturn, v, rest, hprog, hbit⟩

/-- Settles O51, clause by clause. -/
theorem resetHasInvariant : Obligations.ResetHasInvariant := reset_inv

/-- Settles O33: at FINISH EKS_CONTINUE faults, and the invariant admits HASH and VERIFY alone there. -/
theorem eksContinueStopsAtFinish : Obligations.EksContinueStopsAtFinish := by
  intro s hphase
  exact ⟨exec_eksContinue_finish hphase, fun _ hcur hinv => phase_of_eksContinue hinv hcur hphase⟩

/-- Settles O52, along what each of engine, host and reset can do. -/
theorem stepKeepsInvariant : Obligations.StepKeepsInvariant := fun _ _ => step_inv

/-- Settles O35: a transition leaves key, salt, P, S and ITER, breaks the schedule, begins one, or adds one
iteration. -/
theorem scheduleInvariantKept : Obligations.ScheduleInvariantKept := by
  intro s t hinv hstep hheld hsched
  rcases step_cases hstep with ⟨-, rfl⟩ | ⟨-, rfl⟩ | ⟨-, -, rfl⟩ | ⟨-, -, i, -, hexec⟩ | ⟨-, hhost⟩
  · exact hheld hsched
  · exact absurd rfl hsched
  · exact hheld hsched
  · exact (effect_of_exec hexec).holdsSchedule (popTurn_inv hinv) hheld hsched
  · rcases hostTurn_cases hhost with ⟨p, r, a, rfl, -⟩ | ⟨off, v, rest, -, -, rfl⟩
    · exact hheld hsched
    · exact (hostWrite_effect _ off v).holdsSchedule hheld hsched

/-- Settles O53, along whose turn it is. -/
theorem admittedRunsNeverStop : Obligations.AdmittedRunsNeverStop := by
  intro s hinv hadmitted
  cases hturn : s.turn with
  | none => exact ⟨s, by simp only [step, hturn], hadmitted⟩
  | some u =>
    rw [step_of_turn hturn]
    cases u with
    | host =>
      obtain ⟨t, ht⟩ := hostTurn_of_admitted (s := s.popTurn) hadmitted
      exact ⟨t, ht, admittedProgram_of_hostTurn ht hadmitted⟩
    | engine =>
      obtain ⟨t, ht, hprog⟩ := engineTurn_of_inv (popTurn_inv hinv)
      exact ⟨t, ht, hprog ▸ hadmitted⟩
    | rst => exact ⟨_, rfl, hadmitted⟩
end

section
/-! PROOFS. Whole runs of the commands of several steps: one slice of EKS_CONTINUE (42_key_schedule.md R181), HASH and
VERIFY (43_hashing.md R213, R214). -/

namespace Sys2Proof.Machine

theorem engineRun_succ {s t : State} (h : engineTurn s = .next t) (k : Nat) : engineRun (k + 1) s = engineRun k t := by
  simp only [engineRun, h]

/-! ### One slice of EKS_CONTINUE (R181, R182) -/

/-- The number of iterations up to the next slice boundary. -/
def sliceLeft (s : State) : Nat :=
  if s.slice = 0 then s.iterTotal.toNat - s.iter.toNat
  else min (s.slice.toNat - s.sliceCnt.toNat) (s.iterTotal.toNat - s.iter.toNat)

/-- What stands between the next iteration and the end of its slice: the two counters are below their bounds. -/
structure SliceOpen (s : State) : Prop where
  iter_lt : s.iter.toNat < s.iterTotal.toNat
  cnt_lt : s.slice = 0 ∨ s.sliceCnt.toNat < s.slice.toNat

theorem sliceOpen_of_iterates {s : State} (h : s.Inv) {i : Instr} (hi : Iterates i s) : SliceOpen s :=
  ⟨h.active_lt (active_of_iterates h hi), slice_open_of_iterates h hi⟩

theorem SliceOpen.sliceLeft_pos {s : State} (h : SliceOpen s) : 0 < sliceLeft s := by
  obtain ⟨hiter, hcnt⟩ := h
  unfold sliceLeft
  split
  next => omega
  next hslice =>
    have hlt := hcnt.resolve_left hslice
    omega

theorem SliceOpen.endsSlice_iff {s : State} (h : SliceOpen s) : s.endsSlice ↔ sliceLeft s = 1 := by
  obtain ⟨hiter, hcnt⟩ := h
  unfold State.endsSlice sliceLeft
  split
  next hslice => bv_omega
  next hslice =>
    have hlt := hcnt.resolve_left hslice
    bv_omega

/-- An iteration off the boundary leaves one iteration less to it. -/
theorem SliceOpen.sliceLeft_yield {s : State} (h : SliceOpen s) (hoff : ¬s.endsSlice) :
    sliceLeft { iterate s with phase := .loop } + 1 = sliceLeft s := by
  obtain ⟨hiter, hcnt⟩ := h
  obtain ⟨hslice, hmore⟩ := not_or.mp hoff
  change (if s.slice = 0 then s.iterTotal.toNat - (s.iter + 1).toNat
    else min (s.slice.toNat - (s.sliceCnt + 1).toNat) (s.iterTotal.toNat - (s.iter + 1).toNat)) + 1 = _
  unfold sliceLeft
  split
  next => bv_omega
  next hne =>
    have hlt := hcnt.resolve_left hne
    have hnext : s.sliceCnt + 1 ≠ s.slice := fun heq => hslice ⟨hne, heq⟩
    bv_omega

/-- `t` is `s` after the last `n` iterations of a slice and the end of EKS_CONTINUE with success. -/
structure SliceRan (n : Nat) (s t : State) : Prop where
  cipher : t.cipher = (iterateCipher s.keyBytes s.saltb)^[n] s.cipher
  iter : t.iter.toNat = s.iter.toNat + n
  sliceCnt : t.sliceCnt = 0
  abortReq : t.abortReq = false
  status : t.status =
    { s.status with
      busy := false
      done := true
      prog := true
      sched := if s.iter.toNat + n = s.iterTotal.toNat then .complete else s.status.sched }
  regs : ∀ r, r.inCipher = false → r ≠ .status → r ≠ .iter → t.regValue r = s.regValue r

theorem iterate_regValue {r : Reg} (hr : r.inCipher = false) (hiter : r ≠ .iter) (s : State) :
    (iterate s).regValue r = s.regValue r := by
  cases r with
  | p | s => cases hr
  | iter => exact absurd rfl hiter
  | _ => rfl

/-- The step that meets the boundary. -/
theorem sliceRan_last {s : State} (h : s.iter.toNat < s.iterTotal.toNat) :
    SliceRan 1 s (completeOk (markBoundary (iterate s))) where
  cipher := rfl
  iter := iter_succ_toNat h
  sliceCnt := rfl
  abortReq := rfl
  status := by
    have hiff : s.iter + 1 = s.iterTotal ↔ s.iter.toNat + 1 = s.iterTotal.toNat := by bv_omega
    simp only [← hiff]
    rfl
  regs r hr hstatus hiter := by
    rw [completeOk_regValue hstatus, ← iterate_regValue hr hiter s]
    cases r with
    | status => exact absurd rfl hstatus
    | _ => rfl

theorem SliceRan.of_yield {n : Nat} {s t : State} (hlt : s.iter.toNat < s.iterTotal.toNat)
    (h : SliceRan n { iterate s with phase := .loop } t) : SliceRan (n + 1) s t where
  cipher := h.cipher
  iter := by
    have hiter : t.iter.toNat = (s.iter + 1).toNat + n := h.iter
    rw [hiter, iter_succ_toNat hlt]
    omega
  sliceCnt := h.sliceCnt
  abortReq := h.abortReq
  status := by
    have hadd : s.iter.toNat + (n + 1) = (s.iter + 1).toNat + n := by
      rw [iter_succ_toNat hlt]
      omega
    rw [hadd]
    exact h.status
  regs r hr hstatus hiter := by
    refine (h.regs r hr hstatus hiter).trans ?_
    rw [← iterate_regValue hr hiter s]
    cases r <;> rfl

theorem engineTurn_eksContinue {s : State} (hbusy : s.status.busy = true) (hcur : s.cur = 0x14)
    (hiter : Iterates .eksContinue s) : engineTurn s = .next (eksLoop s) := by
  have hdecode : decodeOpcode s.cur = some .eksContinue := by rw [hcur]; rfl
  rw [engineTurn_busy hbusy hdecode, exec_eksContinue_loop (hiter.imp And.right And.right)]

/-- The rest of a slice, from any of its iterations. -/
theorem eksContinue_runs_slice {n : Nat} {s : State} (hinv : s.Inv) (hbusy : s.status.busy = true)
    (hcur : s.cur = 0x14) (hiter : Iterates .eksContinue s) (habort : s.abortReq = false)
    (hleft : sliceLeft s = n + 1) : ∃ t, engineRun (n + 1) s = .next t ∧ SliceRan (n + 1) s t := by
  induction n generalizing s with
  | zero =>
    have hopen := sliceOpen_of_iterates hinv hiter
    obtain ⟨-, -, hcomplete⟩ := eksLoop_eq s
    rw [engineRun_succ (engineTurn_eksContinue hbusy hcur hiter), hcomplete (hopen.endsSlice_iff.mpr hleft) habort]
    exact ⟨_, rfl, sliceRan_last hopen.iter_lt⟩
  | succ n ih =>
    have hopen := sliceOpen_of_iterates hinv hiter
    have hoff : ¬s.endsSlice := by
      rw [hopen.endsSlice_iff]
      omega
    obtain ⟨hyield, -, -⟩ := eksLoop_eq s
    rw [engineRun_succ (engineTurn_eksContinue hbusy hcur hiter), hyield hoff]
    have hdecode : decodeOpcode s.cur = some .eksContinue := by rw [hcur]; rfl
    have hnext : sliceLeft { iterate s with phase := .loop } = n + 1 := by
      have hyielded := hopen.sliceLeft_yield hoff
      omega
    obtain ⟨t, hrun, hran⟩ :=
      ih (yield_inv hinv hbusy hdecode hiter hoff) hbusy hcur (.inl ⟨by decide, rfl⟩) habort hnext
    exact ⟨t, hrun, hran.of_yield hopen.iter_lt⟩

/-! ### The loop of HASH and VERIFY (R213) -/

/-- `t` is `s` after its last `n` iterations of HASH or VERIFY, at FINISH. -/
structure HashLooped (n : Nat) (s t : State) : Prop where
  cipher : t.cipher = (iterateCipher s.keyBytes s.saltb)^[n] s.cipher
  iter : t.iter = s.iterTotal
  status : t.status = { s.status with prog := true, sched := .complete }
  errcode : t.errcode = s.errcode
  cur : t.cur = s.cur
  phase : t.phase = .finish
  regs : ∀ r, r.inCipher = false → r ∉ [Reg.status, .errcode, .iter] → t.regValue r = s.regValue r

theorem engineTurn_hashLoop {i : Instr} (hi : i = .hash ∨ i = .verify) {s : State} (hbusy : s.status.busy = true)
    (hcur : decodeOpcode s.cur = some i) (hphase : s.phase = .loop) : engineTurn s = .next (hashLoop s) := by
  rw [engineTurn_busy hbusy hcur, exec_hashVerify_loop hi hphase]

/-- The step of the last iteration. -/
theorem hashLooped_last {s : State} (habort : s.abortReq = false) (hlast : s.iter + 1 = s.iterTotal) :
    HashLooped 1 s (hashLoop s) := by
  have h := hashLoop_iterated (.inl habort)
  obtain ⟨-, hstatus⟩ := hashLoop_boundary (.inr hlast) habort
  have hphase := h.phase
  rw [if_pos hlast] at hstatus hphase
  exact ⟨h.cipher, (hashLoop_iter s).trans hlast, hstatus, h.errcode, h.cur, hphase,
    fun _ hr hkept => hashLoop_regValue hr hkept s⟩

/-- An iteration that is not the last leaves STATUS but for PROG. -/
theorem hashLoop_status_of_more {s : State} (habort : s.abortReq = false) (hmore : s.iter + 1 ≠ s.iterTotal) :
    ∃ prog, (hashLoop s).status = { s.status with prog := prog } := by
  by_cases hends : s.endsSlice
  · obtain ⟨-, hstatus⟩ := hashLoop_boundary hends habort
    rw [if_neg hmore] at hstatus
    exact ⟨true, hstatus⟩
  · obtain ⟨-, hstatus⟩ := hashLoop_offBoundary hends
    exact ⟨s.status.prog, hstatus⟩

theorem HashLooped.of_step {n : Nat} {s t : State} (habort : s.abortReq = false) (hmore : s.iter + 1 ≠ s.iterTotal)
    (h : HashLooped n (hashLoop s) t) : HashLooped (n + 1) s t := by
  have hstep := hashLoop_iterated (.inl habort)
  have hregs (r : Reg) (hr : r.inCipher = false) (hkept : r ∉ [Reg.status, .errcode, .iter]) :=
    hashLoop_regValue hr hkept s
  obtain ⟨hkey, hsalt, -⟩ :=
    operands_of_regs (s := s) (t := hashLoop s) fun r hr hkept => hregs r hr (by simp_all)
  have htotal : (hashLoop s).iterTotal = s.iterTotal := hregs .iterTotal rfl (by decide)
  obtain ⟨prog, hstatus⟩ := hashLoop_status_of_more habort hmore
  refine ⟨?cipher, h.iter.trans htotal, ?status, h.errcode.trans hstep.errcode, h.cur.trans hstep.cur, h.phase,
    fun r hr hkept => (h.regs r hr hkept).trans (hregs r hr hkept)⟩
  case cipher => rw [h.cipher, hkey, hsalt, hstep.cipher, Function.iterate_succ_apply]
  case status => rw [h.status, hstatus]

/-- All iterations that are left, from any of them. -/
theorem hash_runs_loop {i : Instr} (hi : i = .hash ∨ i = .verify) {n : Nat} {s : State} (hbusy : s.status.busy = true)
    (hcur : decodeOpcode s.cur = some i) (hphase : s.phase = .loop) (habort : s.abortReq = false)
    (hleft : s.iter.toNat + (n + 1) = s.iterTotal.toNat) :
    ∃ t, engineRun (n + 1) s = .next t ∧ HashLooped (n + 1) s t := by
  induction n generalizing s with
  | zero =>
    rw [engineRun_succ (engineTurn_hashLoop hi hbusy hcur hphase)]
    exact ⟨_, rfl, hashLooped_last habort (by bv_omega)⟩
  | succ n ih =>
    have hmore : s.iter + 1 ≠ s.iterTotal := by bv_omega
    have hstep := hashLoop_iterated (.inl habort)
    have hphase' := hstep.phase
    rw [if_neg hmore] at hphase'
    obtain ⟨prog, hstatus⟩ := hashLoop_status_of_more habort hmore
    have htotal : (hashLoop s).iterTotal = s.iterTotal := hashLoop_regValue (r := .iterTotal) rfl (by decide) s
    have hleft' : (hashLoop s).iter.toNat + (n + 1) = (hashLoop s).iterTotal.toNat := by
      have hlt : s.iter.toNat < s.iterTotal.toNat := by omega
      rw [hashLoop_iter, htotal, iter_succ_toNat hlt]
      omega
    rw [engineRun_succ (engineTurn_hashLoop hi hbusy hcur hphase)]
    obtain ⟨t, hrun, hran⟩ :=
      ih (by rw [hstatus]; exact hbusy) (by rw [hstep.cur]; exact hcur) hphase' (hstep.abortReq.trans habort) hleft'
    exact ⟨t, hrun, hran.of_step habort hmore⟩

/-! ### A whole HASH or VERIFY -/

/-- `t` is `s` after a whole HASH or VERIFY that succeeds. -/
structure HashRan (i : Instr) (s t : State) : Prop where
  digb : t.digb = digestBytes (eksState s.keyBytes s.saltb s.cost.toNat) ++ [0x00]
  textb : t.textb = b64Enc (digestBytes (eksState s.keyBytes s.saltb s.cost.toNat)) ++ [0x00]
  cipher : t.cipher = CipherState.zero
  iter : t.iter.toNat = 2 ^ s.cost.toNat
  iterTotal : t.iterTotal.toNat = 2 ^ s.cost.toNat
  errcode : t.errcode = s.errcode
  status : t.status =
    { s.status with
      busy := false
      done := true
      prog := true
      sched := .none
      matched := if i = .verify then decide (t.textb.take 31 = s.refb.take 31) else s.status.matched }
  regs : ∀ r, r.inCipher = false → r.inDig = false → r.inText = false → r ∉ [Reg.status, .iter, .iterTotal] →
    t.regValue r = s.regValue r

/-- The start, the loop and the finish together. -/
theorem hashRan_of_parts {i : Instr} {s u t : State} (hhigh : s.cost.toNat ≤ 31)
    (hloop : HashLooped (2 ^ s.cost.toNat) (hashStart s) u) (hfinish : HashFinished u t)
    (hstatus : t.status =
      { u.status with
        busy := false
        done := true
        sched := .none
        matched := if i = .verify then decide (t.textb.take 31 = u.refb.take 31) else u.status.matched }) :
    HashRan i s t := by
  have hcipher : u.cipher = eksState s.keyBytes s.saltb s.cost.toNat := hloop.cipher
  have htotal : (hashStart s).iterTotal.toNat = 2 ^ s.cost.toNat := total_toNat hhigh
  have hregs (r : Reg) (hr : r.inCipher = false) (hkept : r ∉ [Reg.status, .errcode, .iter, .iterTotal]) :
      u.regValue r = s.regValue r := by
    rw [hloop.regs r hr (by simp_all), hashStart_regValue hr (by simp_all)]
  obtain ⟨-, -, hrefb, -⟩ := operands_of_regs hregs
  have hiter : t.iter = u.iter := hfinish.regs .iter rfl rfl rfl (by decide)
  have htotal' : t.iterTotal = u.iterTotal := hfinish.regs .iterTotal rfl rfl rfl (by decide)
  have htotal'' : u.iterTotal = (hashStart s).iterTotal := hloop.regs .iterTotal rfl (by decide)
  have herr : t.errcode = s.errcode := hfinish.errcode.trans hloop.errcode
  refine ⟨?digb, ?textb, hfinish.cipher, ?iter, ?iterTotal, herr, ?status, fun r hr hdig htext hkept => ?regs⟩
  case digb => rw [hfinish.digb, hcipher]
  case textb => rw [hfinish.textb, hcipher]
  case iter => rw [hiter, hloop.iter, htotal]
  case iterTotal => rw [htotal', htotal'', htotal]
  case status =>
    rw [hstatus, hloop.status, hrefb]
    rfl
  case regs =>
    by_cases hcode : r = .errcode
    · subst hcode
      exact congrArg (fun e => e.code.setWidth 32) herr
    · rw [hfinish.regs r hr hdig htext (by simp_all), hregs r hr (by simp_all)]

/-- A whole run takes one step for the start, one for each of the 2^COST iterations, and one for the finish. -/
theorem hashVerify_runs {i : Instr} (hi : i = .hash ∨ i = .verify) {s : State} (hbusy : s.status.busy = true)
    (hcur : decodeOpcode s.cur = some i) (hphase : s.phase = .start) (habort : s.abortReq = false)
    (hlow : 4 ≤ s.cost.toNat) (hhigh : s.cost.toNat ≤ 31)
    (hfield : i = .verify → fieldOk (s.refb.take 31) 2 = true) :
    ∃ t, engineRun (2 ^ s.cost.toNat + 2) s = .next t ∧ HashRan i s t := by
  have hcost : costOk s.cost = true := (costOk_iff _).mpr ⟨hlow, hhigh⟩
  obtain ⟨n, hn⟩ := Nat.exists_eq_succ_of_ne_zero (Nat.two_pow_pos s.cost.toNat).ne'
  have hstart : engineTurn s = .next (hashStart s) :=
    (engineTurn_busy hbusy hcur).trans (exec_hashVerify_start hi hphase hcost hfield)
  have htotal : (hashStart s).iterTotal.toNat = 2 ^ s.cost.toNat := total_toNat hhigh
  have hleft : (hashStart s).iter.toNat + (n + 1) = (hashStart s).iterTotal.toNat := by
    rw [htotal, hn]
    exact Nat.zero_add _
  obtain ⟨u, hloop, hlooped⟩ := hash_runs_loop (s := hashStart s) hi hbusy hcur rfl habort hleft
  obtain ⟨t, hexec, hfinished, hstatus⟩ := exec_hashVerify_finish hi hlooped.phase
  have hbusy' : u.status.busy = true := by
    rw [hlooped.status]
    exact hbusy
  have hcur' : decodeOpcode u.cur = some i := by
    rw [hlooped.cur]
    exact hcur
  have hfinish : engineTurn u = .next t := (engineTurn_busy hbusy' hcur').trans hexec
  refine ⟨t, ?_, hashRan_of_parts hhigh (hn ▸ hlooped) hfinished hstatus⟩
  rw [engineRun_succ hstart, hn, engineRun_add (n + 1) 1 hloop, engineRun_succ hfinish]
  rfl

end Sys2Proof.Machine

open Sys2Proof Sys2Proof.Machine

/-- Settles O34: off a boundary a step leaves one iteration less to it, and the step that meets it ends the command. -/
theorem eksContinueRunsOneSlice : Obligations.EksContinueRunsOneSlice := by
  intro s n hinv hbusy hcur hphase hactive habort hn
  have hiter : Iterates .eksContinue s := .inr ⟨rfl, hphase, hactive⟩
  have hslice : s.sliceCnt = 0 := hinv.slice_zero (by rw [hphase]; decide)
  have hleft : sliceLeft s = n := by
    rw [hn, sliceLeft, hslice]
    rfl
  have hpos : 0 < n := hleft ▸ (sliceOpen_of_iterates hinv hiter).sliceLeft_pos
  obtain ⟨k, rfl⟩ := Nat.exists_eq_succ_of_ne_zero hpos.ne'
  obtain ⟨t, hrun, h⟩ := eksContinue_runs_slice hinv hbusy hcur hiter habort hleft
  have hstatus := h.status
  rw [hactive] at hstatus
  exact ⟨t, hrun, h.cipher, h.iter, hpos, h.sliceCnt, h.abortReq, hstatus, h.regs⟩

/-- Settles O42: HASH is its start, one step per iteration, and its finish. -/
theorem hashComputesDigest : Obligations.HashComputesDigest := by
  intro s hbusy hcur hphase habort hlow hhigh
  have hdecode : decodeOpcode s.cur = some .hash := by rw [hcur]; rfl
  obtain ⟨t, hrun, h⟩ := hashVerify_runs (.inl rfl) hbusy hdecode hphase habort hlow hhigh nofun
  have htext : t.textb = b64Enc (t.digb.take 23) ++ [0x00] := by
    rw [h.textb, h.digb, List.take_left' (length_digestBytes _)]
  exact ⟨t, hrun, h.digb, htext, h.cipher, h.iter, h.iterTotal, h.status, h.regs⟩

/-- Settles O43: VERIFY runs as HASH, and its MATCH compares the field with the reference. -/
theorem verifyComparesDigestField : Obligations.VerifyComparesDigestField := by
  intro s hbusy hcur hphase habort hlow hhigh hfield
  have hdecode : decodeOpcode s.cur = some .verify := by rw [hcur]; rfl
  obtain ⟨t, hrun, h⟩ := hashVerify_runs (.inr rfl) hbusy hdecode hphase habort hlow hhigh fun _ => hfield
  have hmatched : t.status.matched = decide (t.textb.take 31 = s.refb.take 31) := by
    rw [h.status]
    rfl
  refine ⟨t, hrun, by rw [h.status], by rw [h.status], by rw [h.status], ?_, h.cipher,
    h.errcode, fun i => h.regs (.refw i) rfl rfl rfl (by simp)⟩
  rw [hmatched, decide_eq_true_eq, h.textb, List.take_left' (by rw [length_b64Enc, length_digestBytes])]
  rfl
end

section
/-! PROOFS. The one outcome of a command (43_hashing.md R217) and what the host makes of it: the flows, and the hosts of
modes 1 and 2 (45_host_framing.md R277 to R285). -/

namespace Sys2Proof.Machine

/-! ### One engine step (R217) -/

/-- A step from flags that show no outcome shows none and goes on, or ends the command with exactly one; after ERR no
result is written. -/
def OneOutcome (s t : State) : Prop :=
  (t.status.busy = true ∧ t.status.done = false ∧ t.status.err = false) ∨
    (t.status.busy = false ∧ t.status.done ≠ t.status.err ∧
      (t.status.err = true →
        t.errcode ≠ .none ∧ t.dig = s.dig ∧ t.textw = s.textw ∧ t.status.matched = s.status.matched))

theorem completeOk_oneOutcome (s : State) {u : State} (herr : u.status.err = false) : OneOutcome s (completeOk u) := by
  refine .inr ⟨rfl, ?_, fun herr' => absurd (herr.symm.trans herr') nofun⟩
  rw [completeOk_status_done, completeOk_status_err, herr]
  decide

theorem raiseError_oneOutcome {s u : State} {code : ErrCode} (hcode : code ≠ .none) (hdone : u.status.done = false)
    (hdig : u.dig = s.dig) (htext : u.textw = s.textw) (hmatched : u.status.matched = s.status.matched) :
    OneOutcome s (raiseError code u) := by
  refine .inr ⟨rfl, ?_, fun _ => ⟨hcode, hdig, htext, hmatched⟩⟩
  change u.status.done ≠ true
  rw [hdone]
  decide

theorem ExecEffect.oneOutcome {s t : State} {i : Instr} (h : ExecEffect s i t) (hbusy : s.status.busy = true)
    (hdone : s.status.done = false) (herr : s.status.err = false) : OneOutcome s t := by
  cases h with
  | fails _ hcode => exact raiseError_oneOutcome hcode hdone rfl rfl rfl
  | aborts => exact raiseError_oneOutcome nofun hdone rfl rfl rfl
  | startsHash | yields | advances => exact .inl ⟨hbusy, hdone, herr⟩
  | _ => exact completeOk_oneOutcome s herr

/-! ### What a flow returns (R277, R278, R285) -/

/-- While idle a flow's result is read off the flags. -/
theorem flowOutcome_idle (f : HostFlow) {s : State} (hidle : s.status.busy = false) :
    s.flowOutcome f =
      if s.status.err then some (.failed (engineError s.errcode))
      else if s.status.done then some (f.success s.status.toWord s.textw.toList)
      else none := by
  have hstatus : s.hostRead Reg.status.offset = s.status.toWord := hostRead_status s
  have herrcode : s.hostRead Reg.errcode.offset = s.errcode.code.setWidth 32 := hostRead_errcode s
  rw [State.flowOutcome, hstatus, herrcode, hostRead_text hidle, outcome_status, errCodeOfWord_code]
  rfl

theorem verify_success (st : Status) (text : List Word) :
    HostFlow.verify.success st.toWord text = .matched st.matched := by
  obtain ⟨-, -, -, -, hmatched, -⟩ := status_bits st
  rw [HostFlow.success, hmatched]

/-- After ERR no text is looked at. -/
theorem outcome_of_err (f : HostFlow) {s : State} (hidle : s.status.busy = false) (herr : s.status.err = true)
    (text : List Word) : f.outcome s.status.toWord (s.errcode.code.setWidth 32) text = s.flowOutcome f := by
  rw [flowOutcome_idle f hidle, outcome_status, errCodeOfWord_code, herr]
  rfl

/-- After DONE ERRCODE is not looked at. -/
theorem outcome_of_done (f : HostFlow) {s : State} (hidle : s.status.busy = false) (herr : s.status.err = false)
    (errcode : Word) : f.outcome s.status.toWord errcode s.textw.toList = s.flowOutcome f := by
  rw [flowOutcome_idle f hidle, outcome_status, herr]
  rfl

/-! ### One access of a host in mode 1 or 2 (R279) -/

/-- The machine after reads: its results have grown. -/
def State.withResults (s : State) (rs : List Word) : State := { s with results := rs }

theorem progressRun_read {h : ProgressHost} {s : State} {off : Nat} (hs : s.program = []) (hw : h.waits s = false)
    (ha : h.access = some (.read off 4)) (ts : List Turn) :
    progressRun (.host :: ts) { host := h, machine := s } =
      progressRun ts { host := h.observe (s.hostRead off), machine := s.withResults (s.results ++ [s.hostRead off]) } :=
  progressRun_access hs hw ha ts

/-- The write of a command to an idle device is its acceptance. -/
theorem progressRun_issue {h : ProgressHost} {s : State} {i : Instr} (hs : s.program = [])
    (hidle : s.status.busy = false) (hp : h.position ≠ .poll) (ha : h.access = some (.write Reg.cmd.offset 4 (encode i))) :
    progressRun [.host] { host := h, machine := s } =
      .next { host := h.observe (s.hostRead Reg.cmd.offset), machine := acceptCommand (encode i) s } := by
  have hwrite : performAccess (.write Reg.cmd.offset 4 (encode i)) s = acceptCommand (encode i) s :=
    (hostWrite_idle hidle .cmd _).trans (issueIdle_legal (decodeWord_encode i) s)
  rw [progressRun_access hs (waits_of_position hp s) ha, hwrite]
  rfl

/-- A host that has ended lets its turns pass. -/
theorem progressRun_ended {h : ProgressHost} {s : State} {o : Option HostOutcome} (hp : h.position = .ended o)
    (hs : s.program = []) (n : Nat) :
    progressRun (List.replicate n .host) { host := h, machine := s } = .next { host := h, machine := s } := by
  have hnone : h.access = none := by rw [ProgressHost.access, hp]
  induction n with
  | zero => rfl
  | succ n ih =>
    rw [List.replicate_succ, progressRun_host (by exact hs), ProgressRun.hostAccess]
    simpa only [hnone] using ih

/-! ### The reads of TEXTW (R279) -/

/-- The host reads the words of TEXTW one after the other at positions `P`, and goes on to `Q` with all eight. -/
structure ReadsText (P : List Word → ProgressAt) (Q : HostFlow → List Word → ProgressAt) : Prop where
  ne_poll : ∀ got, P got ≠ .poll
  access : ∀ (h : ProgressHost) got, ({ h with position := P got } : ProgressHost).access =
    some (.read (Reg.textw (Fin.ofNat 8 got.length)).offset 4)
  observe : ∀ (h : ProgressHost) got v, ({ h with position := P got } : ProgressHost).observe v =
    { h with position := if got.length < 7 then P (got ++ [v]) else Q h.flow (got ++ [v]) }

/-- In mode 1 the words make the outcome. -/
theorem readText_readsText (status : Word) :
    ReadsText (.readText status) fun flow got => .ended (flow.outcome status 0 got) :=
  ⟨nofun, fun _ _ => rfl, fun _ _ _ => rfl⟩

/-- In mode 2 the words make the outcome, which SCRUB follows. -/
theorem readDigest_readsText (status : Word) :
    ReadsText (.readDigest status) fun flow got => .issueScrub (flow.outcome status 0 got) :=
  ⟨nofun, fun _ _ => rfl, fun _ _ _ => rfl⟩

theorem take_succ_textw (s : State) {k : Nat} (hk : k < 8) :
    s.textw.toList.take (k + 1) = s.textw.toList.take k ++ [s.textw[k]] := by
  rw [List.take_succ_eq_append_getElem (by simpa using hk)]
  simp

/-- The read of word `k`. -/
theorem ReadsText.step {P : List Word → ProgressAt} {Q : HostFlow → List Word → ProgressAt} (hP : ReadsText P Q)
    (h : ProgressHost) {k : Nat} (hk : k < 8) {s : State} (hs : s.program = []) (hidle : s.status.busy = false)
    (ts : List Turn) :
    progressRun (.host :: ts) { host := { h with position := P (s.textw.toList.take k) }, machine := s } =
      progressRun ts
        { host :=
            { h with
              position :=
                if k < 7 then P (s.textw.toList.take (k + 1)) else Q h.flow (s.textw.toList.take (k + 1)) }
          machine := s.withResults (s.results ++ [s.textw[k]]) } := by
  have hlength : (s.textw.toList.take k).length = k := by
    simp
    omega
  have hread : s.hostRead (Reg.textw (Fin.ofNat 8 (s.textw.toList.take k).length)).offset = s.textw[k] := by
    rw [hostRead_idle hidle, hlength]
    simp [State.regValue, Nat.mod_eq_of_lt hk]
  rw [progressRun_read hs (waits_of_position (hP.ne_poll _) s) (hP.access h _), hread, hP.observe, hlength,
    take_succ_textw s hk]

/-- After `k` words read, the reads of the others. -/
theorem ReadsText.run {P : List Word → ProgressAt} {Q : HostFlow → List Word → ProgressAt} (hP : ReadsText P Q)
    (h : ProgressHost) {n k : Nat} (hk : k + n = 7) {s : State} (hs : s.program = []) (hidle : s.status.busy = false)
    (ts : List Turn) :
    ∃ rs, progressRun (List.replicate (n + 1) .host ++ ts)
        { host := { h with position := P (s.textw.toList.take k) }, machine := s } =
      progressRun ts { host := { h with position := Q h.flow s.textw.toList }, machine := s.withResults rs } := by
  rw [List.replicate_succ, List.cons_append, hP.step h (by omega) hs hidle]
  induction n generalizing k s with
  | zero =>
    obtain rfl : k = 7 := hk
    have hall : s.textw.toList.take (7 + 1) = s.textw.toList := List.take_of_length_le (by simp)
    rw [if_neg (lt_irrefl 7), hall]
    exact ⟨_, rfl⟩
  | succ n ih =>
    obtain ⟨rs, hrun⟩ := ih (k := k + 1) (s := s.withResults (s.results ++ [s.textw[k]])) (by omega) hs hidle
    rw [if_pos (by omega)]
    refine ⟨rs, Eq.trans ?_ hrun⟩
    rw [List.replicate_succ, List.cons_append]
    exact hP.step h (by omega) (s := s.withResults (s.results ++ [s.textw[k]])) hs hidle _

/-! ### A host in mode 1 that polls (R279) -/

/-- Where a poll that shows DONE leads: hash reads its text, verify has its outcome in STATUS (R277, R278). -/
def HostFlow.afterDone (f : HostFlow) (status : Word) : ProgressAt :=
  match f with
  | .hash _ => .readText status []
  | .verify => .ended (f.outcome status 0 [])

theorem verify_afterDone {s : State} (hidle : s.status.busy = false) (herr : s.status.err = false)
    (hdone : s.status.done = true) :
    HostFlow.verify.afterDone s.status.toWord = .ended (s.flowOutcome .verify) := by
  rw [HostFlow.afterDone, flowOutcome_idle _ hidle, outcome_status, herr, hdone]
  rfl

/-- What a poll of an idle device with PROG clear leads to. -/
theorem afterPoll_idle (h : ProgressHost) {s : State} (hidle : s.status.busy = false) (hprog : s.status.prog = false) :
    h.afterPoll s.status.toWord =
      if s.status.err then .readError s.status.toWord
      else if s.status.done then h.flow.afterDone s.status.toWord
      else .ended none := by
  obtain ⟨hbusy, hdone, herr, hprog', -⟩ := status_bits s.status
  simp only [ProgressHost.afterPoll, hbusy, hdone, herr, hprog', hidle, hprog, Bool.false_eq_true, if_false]
  rfl

/-- The poll. -/
theorem progressRun_poll {h : ProgressHost} {s : State} (hp : h.position = .poll) (hirq : h.byIrq = false)
    (hs : s.program = []) (ts : List Turn) :
    ∃ rs, progressRun (.host :: ts) { host := h, machine := s } =
      progressRun ts { host := { h with position := h.afterPoll s.status.toWord }, machine := s.withResults rs } := by
  have hw : h.waits s = false := by simp [ProgressHost.waits, hirq]
  have ha : h.access = some (.read Reg.status.offset 4) := by rw [ProgressHost.access, hp]
  have hstatus : s.hostRead Reg.status.offset = s.status.toWord := hostRead_status s
  have hobserve : h.observe s.status.toWord = { h with position := h.afterPoll s.status.toWord } := by
    rw [ProgressHost.observe, hp]
  rw [progressRun_read hs hw ha, hstatus, hobserve]
  exact ⟨_, rfl⟩

/-- After ERR the host reads ERRCODE and ends with the error. -/
theorem progressRun_readError (h : ProgressHost) {s : State} (hs : s.program = []) (hidle : s.status.busy = false)
    (herr : s.status.err = true) (ts : List Turn) :
    ∃ rs, progressRun (.host :: ts)
        { host := { h with position := .readError s.status.toWord }, machine := s } =
      progressRun ts
        { host := { h with position := .ended (s.flowOutcome h.flow) }, machine := s.withResults rs } := by
  have hread : s.hostRead Reg.errcode.offset = s.errcode.code.setWidth 32 := hostRead_errcode s
  have hobserve : ({ h with position := .readError s.status.toWord } : ProgressHost).observe
      (s.errcode.code.setWidth 32) = { h with position := .ended (s.flowOutcome h.flow) } := by
    rw [← outcome_of_err h.flow hidle herr []]
    rfl
  rw [progressRun_read (off := Reg.errcode.offset) hs (waits_of_position (by simp) s) rfl, hread, hobserve]
  exact ⟨_, rfl⟩

theorem flow_cases (f : HostFlow) : (∃ p, f = .hash p) ∨ f = .verify := by
  cases f with
  | hash p => exact .inl ⟨p, rfl⟩
  | verify => exact .inr rfl

/-- Nine turns of a host that polls an idle device are enough for its outcome. -/
theorem progressRun_outcome {h : ProgressHost} {s : State} (hp : h.position = .poll) (hirq : h.byIrq = false)
    (hs : s.program = []) (hidle : s.status.busy = false) (hprog : s.status.prog = false) :
    ∃ r', progressRun (List.replicate 9 .host) { host := h, machine := s } = .next r' ∧
      r'.host = { h with position := .ended (s.flowOutcome h.flow) } := by
  obtain ⟨rs, hpoll⟩ := progressRun_poll hp hirq hs (List.replicate 8 .host)
  rw [List.replicate_succ, hpoll]
  have hs' : (s.withResults rs).program = [] := hs
  have hpolled := afterPoll_idle h hidle hprog
  have hended (houtcome : h.afterPoll s.status.toWord = .ended (s.flowOutcome h.flow)) :
      ∃ r', progressRun (List.replicate 8 .host)
          { host := { h with position := h.afterPoll s.status.toWord }, machine := s.withResults rs } = .next r' ∧
        r'.host = { h with position := .ended (s.flowOutcome h.flow) } := by
    rw [houtcome]
    exact ⟨_, progressRun_ended rfl hs' 8, rfl⟩
  cases herr : s.status.err with
  | true =>
    obtain ⟨rs', hread⟩ := progressRun_readError h hs' hidle herr (List.replicate 7 .host)
    rw [herr] at hpolled
    rw [hpolled]
    have hs'' : ((s.withResults rs).withResults rs').program = [] := hs
    exact ⟨_, hread.trans (progressRun_ended rfl hs'' 7), by rfl⟩
  | false =>
    cases hdone : s.status.done with
    | true =>
      rw [herr, hdone] at hpolled
      rcases flow_cases h.flow with ⟨p, hflow⟩ | hflow
      · obtain ⟨rs', hreads⟩ := (readText_readsText s.status.toWord).run h (n := 7) (k := 0) rfl hs' hidle []
        rw [hflow] at hpolled
        rw [hpolled, ← outcome_of_done h.flow hidle herr 0]
        exact ⟨_, hreads, by rfl⟩
      · refine hended ?_
        rw [hflow] at hpolled ⊢
        exact hpolled.trans (verify_afterDone hidle herr hdone)
    | false =>
      refine hended ?_
      rw [hpolled, flowOutcome_idle _ hidle, herr, hdone]
      rfl

/-! ### A host in mode 2 (R279) -/

/-- Where the host goes after the command has ended with DONE (R279). -/
def SlicedCommand.afterDone (c : SlicedCommand) (s : State) : ProgressAt :=
  match c with
  | .eksStart => .issue .eksContinue
  | .eksContinue => .readSliceIter (s.status.sched.bits == Sched.complete.bits)
  | .chain64 => .issue .b64EncDigest
  | .b64EncDigest => .readDigest s.status.toWord []

/-- What a read of STATUS after the end of a command leads to. -/
theorem after_idle (c : SlicedCommand) {s : State} (hidle : s.status.busy = false) :
    c.after s.status.toWord =
      if s.status.err then .readError s.status.toWord
      else if s.status.done then c.afterDone s
      else .ended none := by
  obtain ⟨hbusy, hdone, herr, -, -, -, hsched, -⟩ := status_bits s.status
  simp only [SlicedCommand.after, hbusy, hdone, herr, hsched, hidle, Bool.false_eq_true, if_false]
  rfl

theorem sched_bits_eq_complete (v : Sched) : (v.bits == Sched.complete.bits) = decide (v = .complete) := by
  cases v <;> rfl

/-- The read of STATUS. -/
theorem progressRun_await {h : ProgressHost} {s : State} {c : SlicedCommand} (hp : h.position = .await c)
    (hs : s.program = []) (ts : List Turn) :
    ∃ rs, progressRun (.host :: ts) { host := h, machine := s } =
      progressRun ts { host := { h with position := c.after s.status.toWord }, machine := s.withResults rs } := by
  have hw : h.waits s = false := waits_of_position (by rw [hp]; nofun) s
  have ha : h.access = some (.read Reg.status.offset 4) := by rw [ProgressHost.access, hp]
  have hstatus : s.hostRead Reg.status.offset = s.status.toWord := hostRead_status s
  have hobserve : h.observe s.status.toWord = { h with position := c.after s.status.toWord } := by
    rw [ProgressHost.observe, hp]
  rw [progressRun_read hs hw ha, hstatus, hobserve]
  exact ⟨_, rfl⟩

theorem progressRun_await_done {h : ProgressHost} {s : State} {c : SlicedCommand} (hp : h.position = .await c)
    (hs : s.program = []) (hidle : s.status.busy = false) (herr : s.status.err = false) (hdone : s.status.done = true)
    (ts : List Turn) :
    ∃ rs, progressRun (.host :: ts) { host := h, machine := s } =
      progressRun ts { host := { h with position := c.afterDone s }, machine := s.withResults rs } := by
  have hafter : c.after s.status.toWord = c.afterDone s := by rw [after_idle c hidle, herr, hdone]; rfl
  rw [← hafter]
  exact progressRun_await hp hs ts

/-- The host has written the command `c` to an idle device, which accepted it, and waits for its end. -/
structure Issued (c : SlicedCommand) (flow : HostFlow) (r : ProgressRun) : Prop where
  busy : r.machine.status.busy = true
  cur : r.machine.cur = (encode c.instr).extractLsb' 0 8
  flow : r.host.flow = flow
  position : r.host.position = .await c

/-- The write of the next command. -/
theorem progressRun_next {h : ProgressHost} {c : SlicedCommand} (hp : h.position = .issue c) {s : State}
    (hs : s.program = []) (hidle : s.status.busy = false) :
    ∃ r', progressRun [.host] { host := h, machine := s } = .next r' ∧ Issued c h.flow r' := by
  have hne : h.position ≠ .poll := by rw [hp]; nofun
  have ha : h.access = some (.write Reg.cmd.offset 4 (encode c.instr)) := by rw [ProgressHost.access, hp]
  have hobserve (v : Word) : h.observe v = { h with position := .await c } := by rw [ProgressHost.observe, hp]
  rw [progressRun_issue hs hidle hne ha, hobserve]
  exact ⟨_, rfl, rfl, rfl, rfl, rfl⟩

/-- After a slice: the reads of ITER and ITER_TOTAL, and the write of the next command. -/
theorem progressRun_slice {h : ProgressHost} {last : Bool} (hp : h.position = .readSliceIter last) {s : State}
    (hs : s.program = []) (hidle : s.status.busy = false) :
    ∃ r', progressRun (List.replicate 3 .host) { host := h, machine := s } = .next r' ∧
      Issued (if last then .chain64 else .eksContinue) h.flow r' := by
  have hw : h.waits s = false := waits_of_position (by rw [hp]; nofun) s
  have ha : h.access = some (.read Reg.iter.offset 4) := by rw [ProgressHost.access, hp]
  have hobserve (v : Word) : h.observe v = { h with position := .readSliceTotal last v } := by
    rw [ProgressHost.observe, hp]
  rw [List.replicate_succ, progressRun_read hs hw ha, hobserve, List.replicate_succ,
    progressRun_read (off := Reg.iterTotal.offset) (by exact hs) (waits_of_position (by simp) _) rfl]
  exact progressRun_next rfl (by exact hs) (by exact hidle)

/-- After the reads of TEXTW: the write of SCRUB, with the outcome known. -/
theorem progressRun_scrub {h : ProgressHost} {s : State} (hs : s.program = []) (hidle : s.status.busy = false)
    (herr : s.status.err = false) :
    ∃ r', progressRun (List.replicate 9 .host)
        { host := { h with position := .readDigest s.status.toWord [] }, machine := s } = .next r' ∧
      r'.machine.status.busy = true ∧ r'.machine.cur = 0x03 ∧
      r'.host = { h with position := .awaitScrub (s.flowOutcome h.flow) } := by
  obtain ⟨rs, hreads⟩ := (readDigest_readsText s.status.toWord).run h (n := 7) (k := 0) rfl hs hidle [.host]
  rw [outcome_of_done h.flow hidle herr] at hreads
  have hissue := progressRun_issue (h := { h with position := .issueScrub (s.flowOutcome h.flow) })
    (s := s.withResults rs) (i := .scrub) hs hidle nofun rfl
  exact ⟨_, hreads.trans hissue, rfl, rfl, rfl⟩

/-- Two turns of a host in mode 2 are enough for the outcome after ERR. -/
theorem progressRun_sliced_err {h : ProgressHost} {s : State} {c : SlicedCommand} (hp : h.position = .await c)
    (hs : s.program = []) (hidle : s.status.busy = false) (herr : s.status.err = true) :
    ∃ r', progressRun (List.replicate 2 .host) { host := h, machine := s } = .next r' ∧
      r'.host = { h with position := .ended (s.flowOutcome h.flow) } := by
  obtain ⟨rs, hawait⟩ := progressRun_await hp hs [.host]
  have hafter : c.after s.status.toWord = .readError s.status.toWord := by rw [after_idle c hidle, herr]; rfl
  obtain ⟨rs', hread⟩ := progressRun_readError h (s := s.withResults rs) hs hidle herr []
  rw [hafter] at hawait
  exact ⟨_, hawait.trans hread, by rfl⟩

/-- What a transition adds to the reports is one greater fraction. -/
theorem progressTurn_reports {u : Turn} {r r' : ProgressRun} (h : progressTurn u r = .next r') :
    r'.host.reports = r.host.reports ∨
      ∃ q : Fraction, r'.host.reports = r.host.reports ++ [q] ∧
        ∀ last, r.host.reports.getLast? = some last → last.num * q.den < q.num * last.den := by
  rcases progressTurn_host h with heq | ⟨v, heq⟩
  · exact .inl (by rw [heq])
  · rw [heq]
    rcases observe_reports r.host v with hsame | ⟨q, hq, hlt⟩
    · exact .inl hsame
    · exact .inr ⟨q, hq, fun last hlast => of_decide_eq_true (hlt last hlast)⟩

theorem progressTurn_of_ended {u : Turn} {r r' : ProgressRun} (h : progressTurn u r = .next r')
    {o : Option HostOutcome} (ho : r.host.position = .ended o) : r'.host = r.host := by
  rcases progressTurn_host h with heq | ⟨v, heq⟩
  · exact heq
  · exact heq.trans (observe_ended ho v)

/-- While idle each flow returns what the flags say. -/
theorem flowOutcome_cases (f : HostFlow) {s : State} (hidle : s.status.busy = false) :
    (s.status.err = true → s.flowOutcome f = some (.failed (engineError s.errcode))) ∧
      (s.status.err = false → s.status.done = true →
        (∀ p, f = .hash p → s.flowOutcome f = some (.text (settingText p.tag p.cost p.saltField ++ s.textb.take 31))) ∧
          (f = .verify → s.flowOutcome f = some (.matched s.status.matched))) ∧
      (s.status.err = false → s.status.done = false → s.flowOutcome f = none) := by
  rw [flowOutcome_idle f hidle]
  refine ⟨fun herr => by rw [herr]; rfl, fun herr hdone => ?_, fun herr hdone => by rw [herr, hdone]; rfl⟩
  rw [herr, hdone]
  refine ⟨?_, ?_⟩
  · rintro p rfl
    rfl
  · rintro rfl
    exact congrArg some (verify_success s.status _)

end Sys2Proof.Machine

open Sys2Proof Sys2Proof.Machine

/-- Settles O54: the effects of a step, the flags a flow reads, what one observation can add to the reports, and the
accesses of each host after the end of a command. -/
theorem exactlyOneTerminalOutcome : Obligations.ExactlyOneTerminalOutcome := by
  refine ⟨fun i s t hexec hbusy hdone herr => (effect_of_exec hexec).oneOutcome hbusy hdone herr,
    fun f s hidle => flowOutcome_cases f hidle,
    fun u r r' hturn => ⟨progressTurn_reports hturn, fun _ ho => progressTurn_of_ended hturn ho⟩,
    fun r hp hirq hs hidle hprog => progressRun_outcome hp hirq hs hidle hprog, fun c r hp hs hidle => ?sliced⟩
  refine ⟨fun herr => progressRun_sliced_err hp hs hidle herr, fun herr hdone => ?_⟩
  have hawait := progressRun_await_done (s := r.machine) hp hs hidle herr hdone
  cases c with
  | eksStart =>
    obtain ⟨rs, hrun⟩ := hawait [.host]
    obtain ⟨r', hissue, hnext⟩ := progressRun_next (s := r.machine.withResults rs)
      (h := { r.host with position := .issue .eksContinue }) rfl hs hidle
    exact ⟨r', hrun.trans hissue, hnext.busy, hnext.flow, fun _ => ⟨hnext.cur, hnext.position⟩, nofun, nofun, nofun,
      nofun⟩
  | eksContinue =>
    obtain ⟨rs, hrun⟩ := hawait (List.replicate 3 .host)
    obtain ⟨r', hslice, hnext⟩ := progressRun_slice (s := r.machine.withResults rs)
      (h := { r.host with position := SlicedCommand.eksContinue.afterDone r.machine }) rfl hs hidle
    rw [sched_bits_eq_complete] at hnext
    refine ⟨r', hrun.trans hslice, hnext.busy, hnext.flow, nofun, fun _ hmore => ?_, fun _ hlast => ?_, nofun, nofun⟩
    · rw [decide_eq_false hmore] at hnext
      exact ⟨hnext.cur, hnext.position⟩
    · rw [decide_eq_true hlast] at hnext
      exact ⟨hnext.cur, hnext.position⟩
  | chain64 =>
    obtain ⟨rs, hrun⟩ := hawait [.host]
    obtain ⟨r', hissue, hnext⟩ := progressRun_next (s := r.machine.withResults rs)
      (h := { r.host with position := .issue .b64EncDigest }) rfl hs hidle
    exact ⟨r', hrun.trans hissue, hnext.busy, hnext.flow, nofun, nofun, nofun,
      fun _ => ⟨hnext.cur, hnext.position⟩, nofun⟩
  | b64EncDigest =>
    obtain ⟨rs, hrun⟩ := hawait (List.replicate 9 .host)
    obtain ⟨r', hscrub, hbusy, hcur, hhost⟩ :=
      progressRun_scrub (h := r.host) (s := r.machine.withResults rs) hs hidle herr
    refine ⟨r', hrun.trans hscrub, hbusy, by rw [hhost], nofun, nofun, nofun, nofun, fun _ _ _ => ⟨hcur, ?_⟩⟩
    rw [hhost]
    rfl
end

section
/-! PROOFS. Salt generation and its cost argument (45_host_framing.md R282, R283), the password writes (R281), and the
platform (20_memory.md R93). -/

namespace Sys2Proof.Machine

/-! ### The platform (R93) -/

/-- The transition of an entry of the list is its own step. -/
theorem platformStep_some {k : Nat} {pl pl' : List State} {s : State} (hs : pl[k]? = some s)
    (h : platformStep k pl = .next pl') : ∃ t, step s = .next t ∧ pl' = pl.set k t := by
  simp only [platformStep, hs] at h
  split at h
  next t ht => exact ⟨t, ht, (Host.Outcome.next.inj h).symm⟩
  next => cases h
  next => cases h

theorem platformStep_none {k : Nat} {pl pl' : List State} (hs : pl[k]? = none) (h : platformStep k pl = .next pl') :
    pl' = pl := by
  simp only [platformStep, hs] at h
  exact (Host.Outcome.next.inj h).symm

/-! ### The cost argument (R283) -/

theorem generateSalt_of_value {a : CostArg} {c : Int} (h : a.value = some c) (random : List Byte) :
    generateSalt a random = generateSalt (.integer c) random := by
  simp only [generateSalt, h]
  rfl

theorem generateSalt_legal {c : Int} (hlow : 4 ≤ c) (hhigh : c ≤ 31) (random : List Byte) :
    generateSalt (.integer c) random = .ok (settingText Config.genPrefix c.toNat (b64Enc random)) :=
  if_pos ⟨hlow, hhigh⟩

theorem generateSalt_illegal {c : Int} (h : c < 4 ∨ 31 < c) (random : List Byte) :
    generateSalt (.integer c) random = .error .costDomain := by
  have hbad : ¬(4 ≤ c ∧ c ≤ 31) := by omega
  exact if_neg hbad

theorem defaultCost_range : 4 ≤ Config.defaultCost ∧ Config.defaultCost ≤ 31 := by
  unfold Config.defaultCost
  omega

theorem value_absent : CostArg.absent.value = some (Config.defaultCost : Int) := by
  rw [CostArg.value]

/-- Truncation rounds a number that is not negative down. -/
theorem value_numeric_of_nonneg {q : Rat} (h : 0 ≤ q) : (CostArg.numeric q).value = some q.floor := by
  have hnum : 0 ≤ q.num := Rat.num_nonneg.mpr h
  rw [CostArg.value, Int.tdiv_eq_ediv_of_nonneg hnum, ← Rat.floor_def]

/-- Truncation rounds a negative number up, to 0 at most. -/
theorem value_numeric_of_neg {q : Rat} (h : q < 0) : ∃ c, (CostArg.numeric q).value = some c ∧ c ≤ 0 := by
  have hnum : 0 ≤ -q.num := by
    have := Rat.num_neg.mpr h
    omega
  refine ⟨_, rfl, ?_⟩
  have hquot : 0 ≤ (-q.num).tdiv q.den := Int.tdiv_nonneg hnum (Int.natCast_nonneg _)
  rw [Int.neg_tdiv] at hquot
  omega

theorem generateSalt_numeric_illegal {q : Rat} (h : q < 4 ∨ 32 ≤ q) (random : List Byte) :
    generateSalt (.numeric q) random = .error .costDomain := by
  by_cases hneg : q < 0
  · obtain ⟨c, hc, hle⟩ := value_numeric_of_neg hneg
    rw [generateSalt_of_value hc, generateSalt_illegal (by omega)]
  · rw [generateSalt_of_value (value_numeric_of_nonneg (not_lt.mp hneg)), generateSalt_illegal]
    refine h.imp (fun hlow => Rat.floor_lt_iff.mpr hlow) fun hhigh => ?_
    have hfloor : (32 : Int) ≤ q.floor := Rat.le_floor_iff.mpr hhigh
    omega

/-! ### The generated salt (R270, R273, R282) -/

theorem genPrefix_accepted : Config.genPrefix ∈ Config.acceptedPrefixes := by
  have hpos : 0 < Config.acceptedPrefixes.length := Nat.succ_pos _
  rw [Config.genPrefix, List.getD_eq_getElem _ _ (Nat.mod_lt _ hpos)]
  exact List.getElem_mem _

/-- The digits of a cost of two places are read back. -/
theorem costValue_costDigits :
    ∀ c, c ≤ 31 → costValue (BitVec.ofNat 8 (0x30 + c / 10)) (BitVec.ofNat 8 (0x30 + c % 10)) = some c := by
  decide

theorem length_settingText (tag : Byte × Byte) (c : Nat) (field : List Byte) :
    (settingText tag c field).length = 7 + field.length := by
  simp [settingText, costDigits]
  omega

/-- Parse reads a setting string back. -/
theorem parseHash_settingText {tag : Byte × Byte} {c : Nat} {field : List Byte} (htag : tag ∈ Config.acceptedPrefixes)
    (hlow : 4 ≤ c) (hhigh : c ≤ 31) (hlength : field.length = 22) (hfield : fieldOk field 4 = true) :
    parseHash (settingText tag c field) =
      .ok { tag := tag, cost := c, saltField := field, digestField := none } := by
  have hdrop : (settingText tag c field).drop 7 = field := rfl
  have hlen := length_settingText tag c field
  rw [hlength] at hlen
  have hcost : costValue ((settingText tag c field).getD 4 0) ((settingText tag c field).getD 5 0) = some c :=
    costValue_costDigits c hhigh
  have htag' : ((settingText tag c field).getD 1 0, (settingText tag c field).getD 2 0) = tag := rfl
  have hseps : (settingText tag c field).getD 0 0 = dollar ∧ (settingText tag c field).getD 3 0 = dollar ∧
    (settingText tag c field).getD 6 0 = dollar := ⟨rfl, rfl, rfl⟩
  obtain ⟨h0, h3, h6⟩ := hseps
  simp only [parseHash, htag', hcost, h0, h3, h6, hlen, hdrop, htag, hlow, hhigh, hfield,
    List.take_of_length_le hlength.le, Nat.reduceAdd, Nat.reduceLT, ne_eq, not_true_eq_false, or_false, and_self,
    Bool.true_eq_false, if_false, if_true]

end Sys2Proof.Machine

open Sys2Proof Sys2Proof.Machine

/-- Settles O57: the step of entry `k` replaces that entry of the list and no other. -/
theorem instancesShareNoState : Obligations.InstancesShareNoState := by
  intro k pl pl' h
  cases hs : pl[k]? with
  | none =>
    rw [platformStep_none hs h]
    exact ⟨rfl, fun _ _ => rfl, fun s hsome => absurd hsome (Option.some_ne_none s).symm⟩
  | some s =>
    obtain ⟨t, ht, rfl⟩ := platformStep_some hs h
    obtain ⟨hk, -⟩ := List.getElem?_eq_some_iff.mp hs
    refine ⟨List.length_set, fun j hj => List.getElem?_set_ne hj.symm, ?_⟩
    intro u hu
    obtain rfl : s = u := Option.some.inj hu
    exact ⟨t, ht, List.getElem?_set_self hk⟩

/-- Settles O59: Parse reads the setting string back, and the cost argument stands for its truncation. -/
theorem generatedSaltParses : Obligations.GeneratedSaltParses := by
  refine ⟨fun c random hrandom => ?integer, fun random => ?other⟩
  case integer =>
    refine ⟨fun hlow hhigh => ?_, fun hbad => generateSalt_illegal hbad random⟩
    obtain ⟨hlength, hfield, -⟩ := b64Enc_spec hrandom
    refine ⟨_, generateSalt_legal hlow hhigh random, ?_,
      parseHash_settingText genPrefix_accepted (by omega) (by omega) hlength hfield⟩
    rw [length_settingText, hlength]
    rfl
  case other =>
    refine ⟨fun q hlow _ => ?_, fun q hbad => generateSalt_numeric_illegal hbad random, rfl, ?_⟩
    · exact generateSalt_of_value (value_numeric_of_nonneg (le_trans (by decide) hlow)) random
    · obtain ⟨hlow, hhigh⟩ := defaultCost_range
      exact ⟨Config.defaultCost, hlow, hhigh, rfl, generateSalt_of_value value_absent random⟩
end

section
/-! PROOFS. The host's writes of a password and its count (45_host_framing.md R281), and the key they leave
(42_key_schedule.md R172, R184). -/

namespace Sys2Proof.Machine

/-! ### The words of a password -/

/-- The statements that write `ws` to PWW from word `k` on. -/
def pwwWrites (ws : List Word) (k : Nat) : List Stmt :=
  (ws.zipIdx k).map fun wi => .access (.write (Buf.pw.base + 4 * wi.2) 4 wi.1)

theorem pwwWrites_cons (w : Word) (ws : List Word) (k : Nat) :
    pwwWrites (w :: ws) k = .access (.write (Buf.pw.base + 4 * k) 4 w) :: pwwWrites ws (k + 1) := rfl

theorem length_pwwWrites (ws : List Word) (k : Nat) : (pwwWrites ws k).length = ws.length := by
  simp [pwwWrites]

/-- The number of words that hold `bs`. -/
def wordCount (bs : List Byte) : Nat := (bs.length + 3) / 4

/-- The bytes padded with zeros to whole words (R119). -/
def paddedBytes (bs : List Byte) : List Byte := bs ++ List.replicate (4 * wordCount bs - bs.length) 0x00

theorem wrb_pw (bs : List Byte) : wrb .pw bs = pwwWrites (wordsOfBytes (wordCount bs) (paddedBytes bs)).toList 0 := rfl

theorem length_paddedBytes (bs : List Byte) : (paddedBytes bs).length = 4 * wordCount bs := by
  simp [paddedBytes, wordCount]
  omega

/-! ### The run of the writes -/

/-- `t` is `s` after its host has written `ws` to PWW from word `k` on and has `rest` left to do. -/
structure WrotePww (ws : List Word) (k : Nat) (rest : List Stmt) (s t : State) : Prop where
  idle : t.status.busy = false
  program : t.program = rest
  pww : t.pww.toList = s.pww.toList.take k ++ ws ++ s.pww.toList.drop (k + ws.length)
  saltw : t.saltw = s.saltw
  cost : t.cost = s.cost

theorem hostRun_succ {s t : State} (h : hostTurn s = .next t) (n : Nat) : hostRun (n + 1) s = hostRun n t := by
  simp only [hostRun, h]

/-- A write of the host to an idle device's register. -/
theorem hostTurn_writeIdle {s : State} {r : Reg} {v : Word} {rest : List Stmt} (hidle : s.status.busy = false)
    (h : s.program = .access (.write r.offset 4 v) :: rest) :
    hostTurn s = .next (writeIdle { s with program := rest } r v) := by
  have hwrite := hostWrite_idle (s := { s with program := rest }) hidle r v
  rw [hostTurn_write h (offset_aligned r) (offset_le r), hwrite]

theorem take_succ_set {α : Type} {l : List α} {k : Nat} (hk : k < l.length) (v : α) :
    (l.set k v).take (k + 1) = l.take k ++ [v] := by
  rw [List.take_succ_eq_append_getElem (by simpa using hk), List.take_set_of_le le_rfl, List.getElem_set_self]

theorem pww_offset {k : Nat} (hk : k < 18) : (Reg.pww ⟨k, hk⟩).offset = Buf.pw.base + 4 * k := by
  simp [Reg.offset, Buf.base]

/-- Word after word: each write leaves the words before it and after it. -/
theorem hostRun_pwwWrites {ws : List Word} {k : Nat} (hk : k + ws.length ≤ 18) {s : State} {rest : List Stmt}
    (hidle : s.status.busy = false) (hprog : s.program = pwwWrites ws k ++ rest) :
    ∃ t, hostRun ws.length s = .next t ∧ WrotePww ws k rest s t := by
  induction ws generalizing k s with
  | nil => exact ⟨s, rfl, hidle, hprog, by simp, rfl, rfl⟩
  | cons w ws ih =>
    rw [List.length_cons] at hk
    have hk' : k < 18 := by omega
    rw [pwwWrites_cons, List.cons_append, ← pww_offset hk'] at hprog
    rw [List.length_cons, hostRun_succ (hostTurn_writeIdle hidle hprog)]
    obtain ⟨t, hrun, h⟩ := ih (k := k + 1)
      (s := writeIdle { s with program := pwwWrites ws (k + 1) ++ rest } (.pww ⟨k, hk'⟩) w) (by omega) hidle rfl
    refine ⟨t, hrun, h.idle, h.program, ?_, h.saltw, h.cost⟩
    have hset : (writeIdle { s with program := pwwWrites ws (k + 1) ++ rest } (.pww ⟨k, hk'⟩) w).pww.toList =
        s.pww.toList.set k w := Vector.toList_set hk'
    rw [h.pww, hset, take_succ_set (by simpa using hk'), List.drop_set_of_lt (by omega), List.length_cons]
    simp [Nat.add_assoc, Nat.add_comm 1]

/-! ### The key (R172, R184) -/

/-- The count stored in PWLEN (R38, R281). -/
theorem pwlenWarl_passwordCount (pw : List Byte) : (pwlenWarl (passwordCount pw)).toNat = min pw.length 72 := by
  have hcount : (passwordCount pw).toNat = min pw.length 0xFFFFFFFF := by
    rw [passwordCount, BitVec.toNat_ofNat, Nat.mod_eq_of_lt (by omega)]
  rw [pwlenWarl, hcount]
  split
  next h => omega
  next h =>
    change 72 = _
    omega

theorem bytesOfWords_append (ws vs : List Word) : bytesOfWords (ws ++ vs) = bytesOfWords ws ++ bytesOfWords vs :=
  List.flatMap_append

/-- A buffer that begins with the padded bytes begins with the bytes. -/
theorem take_bytesOfWords_padded (bs : List Byte) (vs : List Word) :
    (bytesOfWords ((wordsOfBytes (wordCount bs) (paddedBytes bs)).toList ++ vs)).take bs.length = bs := by
  rw [bytesOfWords_append, bytesOfWords_wordsOfBytes (length_paddedBytes bs), paddedBytes, List.append_assoc,
    List.take_left]

/-- Cutting before the terminator is added changes nothing after the cut. -/
theorem take_terminated (bs : List Byte) (n : Nat) (b : Byte) : (bs.take n ++ [b]).take n = (bs ++ [b]).take n := by
  rcases le_total bs.length n with h | h
  · rw [List.take_of_length_le h]
  · rw [List.take_append_of_le_length h, List.take_append_of_le_length (by simp [h]), List.take_take, min_self]

end Sys2Proof.Machine

open Sys2Proof Sys2Proof.Machine

/-- Settles O60: the words of at most 72 bytes fill PWW from word 0, PWLEN stores their count, and cutting the key at 72
hides the rest. -/
theorem passwordWritesGiveTruncatedKey : Obligations.PasswordWritesGiveTruncatedKey := by
  intro s pw hidle hprog
  have hlength : (pw.take 72).length = min pw.length 72 := by rw [List.length_take, Nat.min_comm]
  have hwords : 0 + (wordsOfBytes (wordCount (pw.take 72)) (paddedBytes (pw.take 72))).toList.length ≤ 18 := by
    rw [Vector.length_toList, wordCount, hlength]
    omega
  have hcount : s.program.length =
      (wordsOfBytes (wordCount (pw.take 72)) (paddedBytes (pw.take 72))).toList.length + 1 := by
    rw [hprog, passwordWrites, wrb_pw, List.length_append, length_pwwWrites, List.length_singleton]
  obtain ⟨u, hrun, hwrote⟩ := hostRun_pwwWrites hwords hidle (hprog.trans (congrArg (· ++ _) (wrb_pw _)))
  have hturn := hostTurn_writeIdle (r := .pwlen) (v := passwordCount pw) hwrote.idle hwrote.program
  have hpwlen := pwlenWarl_passwordCount pw
  refine ⟨writeIdle { u with program := [] } .pwlen (passwordCount pw), ?run, ?key, hpwlen, rfl, hwrote.saltw,
    hwrote.cost⟩
  case run =>
    rw [hcount, hostRun_add _ 1 hrun, hostRun_succ hturn]
    rfl
  case key =>
    change ((bytesOfWords u.pww.toList).take (pwlenWarl (passwordCount pw)).toNat ++ [0x00]).take 72 = _
    rw [hpwlen, ← hlength, hwrote.pww, List.take_zero, List.nil_append, take_bytesOfWords_padded, take_terminated]
end
